-- ==== Sys2Proof/Word.lean ====
section
/-! DEFINITION. The machine's bit-vector types (spec/00_scope.md R8): every value is unsigned. -/

namespace Sys2Proof

/-- A byte: a general register, a memory cell, a timer (spec/10_state.md R20, R28, R30). -/
abbrev Byte := BitVec 8

/-- A 16-bit word: an instruction, `I`, `Pc`, a stack entry (spec/10_state.md R22, R23, R27). -/
abbrev Word := BitVec 16

/-- A 4-bit instruction field: a register number or a sprite height (spec/30_encoding.md R91). -/
abbrev Nibble := BitVec 4

/-- The 12-bit address field `nnn` (spec/30_encoding.md R91). -/
abbrev Addr := BitVec 12

end Sys2Proof
end

