-- ==== Sys2Proof/Machine/Flags.lean ====
section
/-! DEFINITION. The values written to VF as a flag (spec/10_state.md R21, spec/42_alu.md R150). A flag write writes the
whole byte, 0 or 1. -/

namespace Sys2Proof.Machine

/-- A truth value as the flag byte. -/
def flagByte (b : Bool) : Byte := if b then 1#8 else 0#8

/-- The carry of an addition: 1 exactly when the natural sum exceeds 255 (spec/42_alu.md R150, R157). -/
def carryFlag (a b : Byte) : Byte := flagByte (decide (255 < a.toNat + b.toNat))

/-- The flag of `a - b`: 1 exactly when no borrow occurs, equality included (spec/42_alu.md R150, R158). -/
def notBorrowFlag (a b : Byte) : Byte := flagByte (decide (b.toNat ≤ a.toNat))

/-- The bit a right shift moves out (spec/42_alu.md R159). -/
def lowBitFlag (a : Byte) : Byte := a &&& 0x01#8

/-- The bit a left shift moves out (spec/42_alu.md R161). -/
def highBitFlag (a : Byte) : Byte := a >>> 7

end Sys2Proof.Machine
end

