-- ==== Sys2Proof/Config.lean ====
section
/-! DEFINITION. The constants of the machine (spec/00_scope.md R6), the defaults of its configuration (R7), and the free
values: what the environment answers and what the spec leaves open, constants with no body. -/

namespace Sys2Proof

/-- The order of the two bytes of a 16-bit field of the debug snapshot (spec/60_exceptions.md R336). -/
inductive ByteOrder where
  | highFirst
  | lowFirst
  deriving DecidableEq, Repr, Inhabited

/-- A port's own error value (spec/60_exceptions.md R301, "the port's failure, as it came"; spec/90_conflicts.md C11). The
spec gives it no form: a natural number stands for it. DESIGN CHOICE, safe: log entry 26. -/
structure PortFailure where
  value : Nat
  deriving DecidableEq, Repr, Inhabited

/-- An answer of `Rand()`: a byte, or the failure (spec/60_exceptions.md R331). -/
inductive RandAnswer where
  | byte (b : Byte)
  | failed (f : PortFailure)
  deriving DecidableEq, Repr, Inhabited

/-- An answer of `Render`: done, or the failure (spec/60_exceptions.md R328). -/
inductive RenderAnswer where
  | rendered
  | failed (f : PortFailure)
  deriving DecidableEq, Repr, Inhabited

/-- The three capability ports that Boot initialises, in the order of spec/70_reset_and_hazards.md R352. -/
inductive Port where
  | display
  | keyboard
  | buzzer
  deriving DecidableEq, Repr

end Sys2Proof

namespace Sys2Proof.Config

/-! ### Constants (spec/00_scope.md R6) -/

/-- `MEM_SIZE` -/
abbrev memSize : Nat := 4096
/-- `FONT_LEN` -/
abbrev fontLen : Nat := 80
/-- `FONT_STRIDE` -/
abbrev fontStride : Nat := 5
/-- `PROG_BASE` -/
abbrev progBase : Nat := 0x200
/-- `PROG_MAX` -/
abbrev progMax : Nat := 0xE00

/-! ### Defaults of the configuration (spec/00_scope.md R7) -/

/-- The default FONT (spec/10_state.md R33, marked there as general knowledge), one digit a line.
UNVERIFIED, unsafe: log entry 12. -/
def defaultFont : Vector Byte fontLen :=
  #v[0xF0, 0x90, 0x90, 0x90, 0xF0,
    0x20, 0x60, 0x20, 0x20, 0x70,
    0xF0, 0x10, 0xF0, 0x80, 0xF0,
    0xF0, 0x10, 0xF0, 0x10, 0xF0,
    0x90, 0x90, 0xF0, 0x10, 0x10,
    0xF0, 0x80, 0xF0, 0x10, 0xF0,
    0xF0, 0x80, 0xF0, 0x90, 0xF0,
    0xF0, 0x10, 0x20, 0x40, 0x40,
    0xF0, 0x90, 0xF0, 0x90, 0xF0,
    0xF0, 0x90, 0xF0, 0x10, 0xF0,
    0xF0, 0x90, 0xF0, 0x90, 0x90,
    0xE0, 0x90, 0xE0, 0x90, 0xE0,
    0xF0, 0x80, 0x80, 0x80, 0xF0,
    0xE0, 0x90, 0x90, 0x90, 0xE0,
    0xF0, 0x80, 0xF0, 0x80, 0xF0,
    0xF0, 0x80, 0xF0, 0x80, 0x80]

/-- The default of `Q`: VF_RESET, SHIFT_VY and MEM_ADV_I on (spec/10_state.md R40). -/
def defaultQuirks : BitVec 5 := 0b00111#5

/-! ### Free values: no body, nothing can be proved of them (log entry 6). The first argument numbers the draw. -/

/-- The answer of `KeyPressed(k)` (spec/60_exceptions.md R329). -/
opaque keyPressed : Nat → Byte → Bool
/-- The answer of `KeyAny()` (spec/60_exceptions.md R329). -/
opaque keyAny : Nat → Option Byte
/-- The answer of `Rand()` (spec/60_exceptions.md R331). -/
opaque rand : Nat → RandAnswer
/-- The answer of `Render` (spec/60_exceptions.md R328). -/
opaque render : Nat → RenderAnswer
/-- Whether a port's `boot()` succeeds (spec/60_exceptions.md R310). -/
opaque portBootOk : Nat → Port → Bool
/-- A framebuffer byte of a screen whose size was just changed (log entry 13). -/
opaque framebufferByte : Nat → Nat → Byte

/-- `SNAPSHOT_ORDER`, left OPEN by spec/00_scope.md R7 (log entry 11). -/
opaque snapshotOrder : ByteOrder

end Sys2Proof.Config
end

