-- ==== Sys2Proof/Machine/State.lean ====
section
/-! DEFINITION. The state of the machine as plain data, its reset value, and the reasons a step can stop. -/

namespace Sys2Proof.Machine

/-- The errors of spec/60_exceptions.md R301, with what each records. -/
inductive Error where
  | unknownOpcode (word : Word) (pc : Word)
  | stackUnderflow
  | stackOverflow
  /-- The random-byte source's own error value, as it came. -/
  | rngFailure (failure : PortFailure)
  /-- The Display's own error value, as it came. -/
  | displayFailure (failure : PortFailure)
  | notBooted
  /-- The base address of the access. -/
  | memoryBounds (base : Nat)
  | programTooLarge (length : Nat)
  | portBootFailure (port : Port)
  deriving DecidableEq, Repr

/-- The five lifecycle points (spec/48_scheduler.md R266). -/
inductive Strobe where
  | beforeFrame
  | beforeCycle
  | afterCycle
  | afterFrame
  | onError
  deriving DecidableEq, Repr

/-- What the core puts out in a step: strobes, port transactions with their answers, results (spec/60_exceptions.md
R328 to R334, spec/48_scheduler.md R250, R266). The model's own record: log entry 7. -/
inductive Event where
  | strobe (point : Strobe)
  | keyPressed (key : Byte) (answer : Bool)
  | keyAny (answer : Option Byte)
  | rand (answer : RandAnswer)
  | render (fb : List Byte) (width height : Nat) (answer : RenderAnswer)
  | play
  | portBoot (port : Port) (ok : Bool)
  | tickResult (done : Bool) (err : Option Error)
  | commandResult (err : Option Error)
  | snapshot (bytes : List Byte)
  deriving DecidableEq, Repr

/-- The host's commands (spec/60_exceptions.md R320). -/
inductive Command where
  | powerOn
  | boot (run : Bool)
  | loadProgram (program : List Byte)
  | start
  | stop
  | loop
  | loopOnce
  | singleFrame
  | setQuirks (q : BitVec 5)
  | setCpf (cpf : Nat)
  | setScreen (width height : Nat)
  | setSpeed (hz min max : Nat)
  | snapshot
  deriving DecidableEq, Repr

/-- The configuration (spec/00_scope.md R7, spec/10_state.md R43): written by the host only, between runs. -/
structure Configuration where
  /-- `SCREEN_W` -/
  screenW : Nat
  /-- `SCREEN_H` -/
  screenH : Nat
  /-- `CPF`, executed instructions per frame -/
  cpf : Nat
  /-- `SPEED_HZ`; read by no rule -/
  speedHz : Nat
  /-- `SPEED_MIN`; read by no rule of a tick -/
  speedMin : Nat
  /-- `SPEED_MAX`; read by no rule of a tick -/
  speedMax : Nat
  /-- `FONT` -/
  font : Vector Byte Config.fontLen
  /-- `MROUTINE` is installed -/
  mroutine : Bool
  deriving DecidableEq, Repr

/-- Answers of the environment already fixed, oldest first, one list per question (spec/60_exceptions.md R334). When a
list is empty the answer is a free value of Config. The model's own: log entry 6. -/
structure Environment where
  keyPressed : List Bool
  keyAny : List (Option Byte)
  rand : List RandAnswer
  render : List RenderAnswer
  portBoot : List Bool
  deriving DecidableEq, Repr

/-- The cells of memory that differ from the contents of an unwritten memory, by rising address. -/
abbrev Memory := List Host.Cell

/-- Everything the spec gives the machine (spec/10_state.md), then the model's own fields. -/
structure State where
  /-- `V[0]` to `V[15]` (R20) -/
  v : Vector Byte 16
  /-- `I` (R22) -/
  i : Word
  /-- `Pc` (R23) -/
  pc : Word
  /-- `Sp` (R26) -/
  sp : Byte
  /-- `Stack[0]` to `Stack[15]` (R27) -/
  stack : Vector Word 16
  /-- `Dt` (R28) -/
  dt : Byte
  /-- `St` (R29) -/
  st : Byte
  /-- `Mem` (R30) -/
  mem : Memory
  /-- `FB` (R34) -/
  fb : List Byte
  /-- the framebuffer changed since the last successful render (R36) -/
  dirty : Bool
  /-- `Ir`, the word last fetched (R37) -/
  ir : Word
  /-- `Q`, bits 0 to 4: VF_RESET, SHIFT_VY, MEM_ADV_I, CLIP, JUMP_VX (R40) -/
  q : BitVec 5
  /-- the configuration register (R43) -/
  cfg : Configuration
  isBooted : Bool
  isPaused : Bool
  waitingForKey : Bool
  keyTarget : Nibble
  waitingForRelease : Bool
  heldKey : Byte
  /-- the sticky error; none when there is none (R44) -/
  lastError : Option Error
  /-- instructions executed since LoadProgram (R44) -/
  cycles : Nat
  /-- frame boundaries since LoadProgram (R44) -/
  frames : Nat
  /-- the model's own: the host's Loop is issuing ticks (log entry 4) -/
  looping : Bool
  /-- the model's own: a run is in progress (log entry 8) -/
  inRun : Bool
  /-- the model's own: commands issued and not yet taken (log entry 5) -/
  commands : List Command
  /-- the model's own: answers of the ports already fixed (log entry 6) -/
  env : Environment
  /-- the model's own: free values drawn so far (log entry 6) -/
  draws : Nat
  /-- the model's own: what the core put out in the last step (log entry 7) -/
  out : List Event
  deriving DecidableEq, Repr

/-- The states in which the model itself stops. Both are states that no run reaches from reset
(`Sys2Proof.Machine.State.Inv` excludes them). DESIGN CHOICE, safe: log entry 15. -/
inductive Fault where
  /-- Raised by `RET` when `Sp` is above 16, so that the popped slot does not exist (spec/10_state.md R26, R27). Safe. -/
  | stackIndex
  /-- Raised by `DRW` when the framebuffer is not `FB_LEN` bytes long (spec/10_state.md R34). Safe. -/
  | framebufferSize
  deriving DecidableEq, Repr

/-- The reasons the model gives no meaning. -/
inductive Refusal where
  /-- An instruction with no meaning in the model yet; raised by exec's arms only. Safe. -/
  | notModelled (mnemonic : String)
  /-- Raised by `SYS` when a machine routine is installed: the hook has no contract (spec/40_flow.md R122; log entry 10).
  Safe. -/
  | machineRoutineInstalled (nnn : Addr)
  /-- Raised by a step on, and by a command that would make, a configuration outside the constraints of
  spec/00_scope.md R7 (spec/93_implementation_defined.md U23; log entry 9). Safe. -/
  | badConfiguration
  /-- Raised by a command that rewrites `Q` or the configuration during a run (spec/10_state.md R42,
  spec/93_implementation_defined.md U8; log entry 8). Safe. -/
  | midRunReconfiguration
  deriving DecidableEq, Repr

/-- The default configuration (spec/00_scope.md R7). -/
def Configuration.default : Configuration where
  screenW := 64
  screenH := 32
  cpf := 30
  speedHz := 500
  speedMin := 5
  speedMax := 700
  font := Config.defaultFont
  mroutine := false

/-- An environment that has fixed no answer. -/
def Environment.empty : Environment where
  keyPressed := []
  keyAny := []
  rand := []
  render := []
  portBoot := []

/-- The machine after power-on with the configured values `q` and `cfg` (spec/70_reset_and_hazards.md R351,
spec/10_state.md R50, column "after power-on"). -/
def State.powerOn (q : BitVec 5) (cfg : Configuration) : State where
  v := Vector.replicate 16 0
  i := 0
  pc := 0
  sp := 0
  stack := Vector.replicate 16 0
  dt := 0
  st := 0
  mem := []
  fb := List.replicate (cfg.screenW * cfg.screenH / 8) 0
  dirty := false
  ir := 0
  q := q
  cfg := cfg
  isBooted := false
  isPaused := false
  waitingForKey := false
  keyTarget := 0
  waitingForRelease := false
  heldKey := 0
  lastError := none
  cycles := 0
  frames := 0
  looping := false
  inRun := false
  commands := []
  env := Environment.empty
  draws := 0
  out := []

/-- The machine right after reset: the default configuration, powered on, booted with `Boot(true)`, and reset by
LoadProgram (spec/70_reset_and_hazards.md R350) of an empty program, with the Loop issuing ticks (log entry 1). -/
def State.reset : State :=
  { State.powerOn Config.defaultQuirks Configuration.default with
    pc := 0x200#16
    isBooted := true
    looping := true
    inRun := true }

end Sys2Proof.Machine
end

