-- ==== Sys2Proof/Machine/Memory.lean ====
section
/-! DEFINITION. Memory as a list of cells in canonical form: addresses strictly rising, all below 4096, no cell equal to
what an unlisted address reads as (spec/20_memory.md R60, R61). -/

namespace Sys2Proof.Machine

/-- What an address that no cell lists reads as: the contents after power-on and LoadProgram of an empty program, FONT
at 0 to 79 and 0 elsewhere (spec/10_state.md R50, spec/70_reset_and_hazards.md R351; log entry 21). -/
def Memory.unlisted (font : Vector Byte Config.fontLen) (a : Nat) : Byte :=
  font.toList.getD a 0

/-- The byte at address `a`. -/
def Memory.read (font : Vector Byte Config.fontLen) : Memory → Nat → Byte
  | [], a => Memory.unlisted font a
  | (k, b) :: rest, a => if a = k then b else Memory.read font rest a

/-- The cells of a list with the byte at `a` set to `b`, a listed cell removed when `b` is what it reads as unlisted. -/
def Memory.write (font : Vector Byte Config.fontLen) : Memory → Nat → Byte → Memory
  | [], a, b => if b = Memory.unlisted font a then [] else [(a, b)]
  | (k, c) :: rest, a, b =>
    if a < k then
      if b = Memory.unlisted font a then (k, c) :: rest else (a, b) :: (k, c) :: rest
    else if a = k then
      if b = Memory.unlisted font a then rest else (a, b) :: rest
    else (k, c) :: Memory.write font rest a b

/-- The bytes at `a`, `a + 1`, ..., `a + n - 1`, in address order. -/
def Memory.readBytes (font : Vector Byte Config.fontLen) (m : Memory) (a : Nat) : Nat → List Byte
  | 0 => []
  | n + 1 => Memory.read font m a :: Memory.readBytes font m (a + 1) n

/-- The bytes written at `a`, `a + 1`, ..., in ascending order. -/
def Memory.writeBytes (font : Vector Byte Config.fontLen) (m : Memory) (a : Nat) : List Byte → Memory
  | [] => m
  | b :: bs => Memory.writeBytes font (Memory.write font m a b) (a + 1) bs

/-- The canonical form from address `lo` up. -/
def Memory.wfFrom (font : Vector Byte Config.fontLen) : Nat → Memory → Bool
  | _, [] => true
  | lo, (k, b) :: rest =>
    lo ≤ k && k < Config.memSize && b != Memory.unlisted font k && Memory.wfFrom font (k + 1) rest

/-- The canonical form: equal memories are equal lists. -/
def Memory.wf (font : Vector Byte Config.fontLen) (m : Memory) : Bool := Memory.wfFrom font 0 m

end Sys2Proof.Machine
end

