-- ==== Sys2Proof/Machine/Ops.lean ====
section
/-! DEFINITION. The named operations on the state: registers, stack, memory access, raising an error, and the questions
the core asks its ports. -/

namespace Sys2Proof.Machine

/-! ### Outputs -/

/-- Put out one event. -/
def State.emit (s : State) (e : Event) : State := { s with out := s.out ++ [e] }

/-! ### Registers -/

/-- `V[x]` (spec/10_state.md R20). -/
def State.getV (s : State) (x : Nibble) : Byte := s.v[x.toNat]'x.isLt

/-- `V[x] <- b`; no register is hardwired (spec/10_state.md R20). -/
def State.setV (s : State) (x : Nibble) (b : Byte) : State := { s with v := s.v.set x.toNat b x.isLt }

/-- `V[15] <- b`, the flag register (spec/10_state.md R21). -/
def State.setVF (s : State) (b : Byte) : State := s.setV 15#4 b

/-- `Pc <- w` (spec/10_state.md R24, R25: no check of the target). -/
def State.setPc (s : State) (w : Word) : State := { s with pc := w }

/-- `Pc <- Pc +_16 2`, the fetch's advance (spec/10_state.md R23). -/
def State.advancePc (s : State) : State := s.setPc (s.pc + 2)

/-- `I <- w` (spec/10_state.md R22). -/
def State.setI (s : State) (w : Word) : State := { s with i := w }

/-- `V[k] <- b0`, `V[k+1] <- b1`, ..., ascending (spec/43_index_memory.md R186). -/
def State.setRegsFrom (s : State) (k : Nat) : List Byte → State
  | [] => s
  | b :: bs => State.setRegsFrom { s with v := s.v.setIfInBounds k b } (k + 1) bs

/-! ### The return-address stack (spec/10_state.md R26, R27) -/

/-- `Stack[Sp] <- Pc ; Sp <- Sp + 1`; the caller has checked that `Sp` is at most 15. -/
def State.push (s : State) : State :=
  { s with stack := s.stack.setIfInBounds s.sp.toNat s.pc, sp := s.sp + 1 }

/-- `Stack[Sp - 1]`, the slot a pop reads; none when there is no such slot. -/
def State.top (s : State) : Option Word := s.stack[(s.sp - 1).toNat]?

/-- `Sp <- Sp - 1 ; Pc <- w`, where `w` is the popped slot; the slot keeps its value. -/
def State.popTo (s : State) (w : Word) : State := { s with sp := s.sp - 1, pc := w }

/-! ### Memory (spec/20_memory.md R63, R64; log entry 17) -/

/-- The byte at address `a`. -/
def State.readByte (s : State) (a : Nat) : Byte := Memory.read s.cfg.font s.mem a

/-- `MemRead(a, n)`: the error when some byte would lie at 4096 or above, and `n` is not 0. -/
def State.memRead (s : State) (a n : Nat) : Except Error (List Byte) :=
  if 0 < n ∧ Config.memSize < a + n then .error (.memoryBounds a) else .ok (Memory.readBytes s.cfg.font s.mem a n)

/-- `MemWrite(a, n, bs)` with `n` the length of `bs`: the whole range is checked before the first byte is written. -/
def State.memWrite (s : State) (a : Nat) (bs : List Byte) : Except Error State :=
  if Config.memSize < a + bs.length then .error (.memoryBounds a)
  else .ok { s with mem := Memory.writeBytes s.cfg.font s.mem a bs }

/-! ### Errors: the machine's only exception (spec/48_scheduler.md R265, spec/60_exceptions.md R309, R313; log entry 3) -/

/-- Raise `e`: `lastError <- e`, then the `OnError` strobe. Nothing else is written and `Pc` stays where it is: there is
no handler and no saved register. The one return from it is LoadProgram (`State.loadProgram`), or power-on. -/
def State.raise (s : State) (e : Error) : State := { s with lastError := some e }.emit (.strobe .onError)

/-- The run states of spec/10_state.md R45. -/
inductive RunState where
  | notBooted
  | halted
  | paused
  | running
  deriving DecidableEq, Repr

/-- The run state is a function of three fields (spec/10_state.md R45). -/
def State.runState (s : State) : RunState :=
  if !s.isBooted then .notBooted
  else if s.lastError.isSome then .halted
  else if s.isPaused then .paused
  else .running

/-- The cause code of an error (spec/60_exceptions.md R301). -/
def Error.code : Error → Nat
  | .unknownOpcode _ _ => 1
  | .stackUnderflow => 2
  | .stackOverflow => 3
  | .rngFailure _ => 4
  | .displayFailure _ => 5
  | .notBooted => 6
  | .memoryBounds _ => 7
  | .programTooLarge _ => 8
  | .portBootFailure _ => 9

/-- Whether an error is stored in `lastError` (spec/60_exceptions.md R301). -/
def Error.sticky : Error → Bool
  | .notBooted | .programTooLarge _ | .portBootFailure _ => false
  | .unknownOpcode _ _ | .stackUnderflow | .stackOverflow | .rngFailure _ | .displayFailure _ | .memoryBounds _ => true

/-! ### The questions the core asks its ports (spec/60_exceptions.md R328 to R334, log entry 6)

Each question has its answer (what the environment fixed, else a free value) and the state after it: the answer taken
from the environment's list or one more free value drawn, and the transaction put out. -/

/-- The answer of `KeyPressed(k)`, asked with all 8 bits (spec/45_keys_timers.md R230). -/
def State.keyPressedAnswer (s : State) (k : Byte) : Bool :=
  match s.env.keyPressed with
  | b :: _ => b
  | [] => Config.keyPressed s.draws k

/-- The state after `KeyPressed(k)`. -/
def State.keyPressedAsked (s : State) (k : Byte) : State :=
  { s with
    env := { s.env with keyPressed := s.env.keyPressed.tail }
    draws := if s.env.keyPressed.isEmpty then s.draws + 1 else s.draws }.emit (.keyPressed k (s.keyPressedAnswer k))

/-- The answer of `KeyAny()`. -/
def State.keyAnyAnswer (s : State) : Option Byte :=
  match s.env.keyAny with
  | b :: _ => b
  | [] => Config.keyAny s.draws

/-- The state after `KeyAny()`. -/
def State.keyAnyAsked (s : State) : State :=
  { s with
    env := { s.env with keyAny := s.env.keyAny.tail }
    draws := if s.env.keyAny.isEmpty then s.draws + 1 else s.draws }.emit (.keyAny s.keyAnyAnswer)

/-- The answer of `Rand()`. -/
def State.randAnswer (s : State) : RandAnswer :=
  match s.env.rand with
  | b :: _ => b
  | [] => Config.rand s.draws

/-- The state after `Rand()`. -/
def State.randAsked (s : State) : State :=
  { s with
    env := { s.env with rand := s.env.rand.tail }
    draws := if s.env.rand.isEmpty then s.draws + 1 else s.draws }.emit (.rand s.randAnswer)

/-- The answer of `Render`. -/
def State.renderAnswer (s : State) : RenderAnswer :=
  match s.env.render with
  | b :: _ => b
  | [] => Config.render s.draws

/-- The state after `Render(FB, SCREEN_W, SCREEN_H)`. -/
def State.renderAsked (s : State) : State :=
  { s with
    env := { s.env with render := s.env.render.tail }
    draws := if s.env.render.isEmpty then s.draws + 1 else s.draws }.emit
      (.render s.fb s.cfg.screenW s.cfg.screenH s.renderAnswer)

/-- Whether `boot()` of port `p` succeeds. -/
def State.portBootAnswer (s : State) (p : Port) : Bool :=
  match s.env.portBoot with
  | b :: _ => b
  | [] => Config.portBootOk s.draws p

/-- The state after `boot()` of port `p`. -/
def State.portBootAsked (s : State) (p : Port) : State :=
  { s with
    env := { s.env with portBoot := s.env.portBoot.tail }
    draws := if s.env.portBoot.isEmpty then s.draws + 1 else s.draws }.emit (.portBoot p (s.portBootAnswer p))

end Sys2Proof.Machine
end

