-- ==== Sys2Proof/Machine/Operands.lean ====
section
/-! DEFINITION. The operand forms: the quirk bits, immediates widened, the index address, the registers and digits a
store moves, the base of `Bxnn` (spec/30_encoding.md R93, spec/43_index_memory.md R180). -/

namespace Sys2Proof.Machine

/-! ### The quirk bits (spec/10_state.md R40) -/

/-- `Q.VF_RESET` -/
def State.vfReset (s : State) : Bool := s.q.getLsbD 0
/-- `Q.SHIFT_VY` -/
def State.shiftVy (s : State) : Bool := s.q.getLsbD 1
/-- `Q.MEM_ADV_I` -/
def State.memAdvI (s : State) : Bool := s.q.getLsbD 2
/-- `Q.CLIP`: stored, read by nothing (spec/10_state.md R41). -/
def State.clip (s : State) : Bool := s.q.getLsbD 3
/-- `Q.JUMP_VX` -/
def State.jumpVx (s : State) : Bool := s.q.getLsbD 4

/-! ### Immediates and addresses -/

/-- `zext_16(nnn)` (spec/30_encoding.md R93). -/
def zextAddr (nnn : Addr) : Word := nnn.setWidth 16

/-- `zext_16` of a register value. -/
def zextByte (b : Byte) : Word := b.setWidth 16

/-- The register number of `Bxnn`: the top nibble of its address (spec/40_flow.md R125). -/
def jumpRegister (nnn : Addr) : Nibble := nnn.extractLsb' 8 4

/-- The base register value of `Bxnn` (spec/40_flow.md R125). -/
def State.jumpBase (s : State) (nnn : Addr) : Byte :=
  if s.jumpVx then s.getV (jumpRegister nnn) else s.getV 0#4

/-- The address of an access through `I`, a natural that nothing reduces (spec/43_index_memory.md R180). -/
def State.indexAddr (s : State) : Nat := s.i.toNat

/-- How many bytes `Fx55` and `Fx65` move: `x + 1` (spec/43_index_memory.md R185). -/
def transferCount (x : Nibble) : Nat := x.toNat + 1

/-- `V[0]`, ..., `V[x]` (spec/43_index_memory.md R185). -/
def State.regsUpTo (s : State) (x : Nibble) : List Byte := s.v.toList.take (transferCount x)

/-- The decimal digits of a byte: hundreds, tens, ones (spec/43_index_memory.md R184; the order is UNVERIFIED, unsafe: log
entry 12). -/
def bcdDigits (b : Byte) : List Byte :=
  [BitVec.ofNat 8 (b.toNat / 100), BitVec.ofNat 8 (b.toNat / 10 % 10), BitVec.ofNat 8 (b.toNat % 10)]

/-- `if Q.MEM_ADV_I then I <- I +_16 (x + 1)` (spec/43_index_memory.md R185, R186). -/
def State.advanceI (s : State) (x : Nibble) : State :=
  if s.memAdvI then s.setI (s.i + BitVec.ofNat 16 (transferCount x)) else s

/-- The address of a hexadecimal digit's sprite, `V[x] * 5`, from the whole byte (spec/43_index_memory.md R183). -/
def fontAddr (b : Byte) : Word := BitVec.ofNat 16 (b.toNat * Config.fontStride)

/-- `if Q.VF_RESET then V[15] <- 0`, before the operands of a logic operation are read (spec/42_alu.md R154). -/
def State.resetVF (s : State) : State := if s.vfReset then s.setVF 0 else s

/-- `if Q.SHIFT_VY then V[x] <- V[y]`, before the shift (spec/42_alu.md R159). -/
def State.loadShiftOperand (s : State) (x y : Nibble) : State :=
  if s.shiftVy then s.setV x (s.getV y) else s

end Sys2Proof.Machine
end

