-- ==== Sys2Proof/Machine/Alu.lean ====
section
/-! DEFINITION. Register loads, arithmetic, logic, shifts, random (spec/42_alu.md). The writes of an instruction run in
the order its rule lists them, each seeing the ones before (spec/00_scope.md R13), which decides the cases where a
register number is 15 (DEDUCED, unsafe: log entry 16). -/

namespace Sys2Proof.Machine

/-- `6xkk` (R151). -/
def execLdImm (x : Nibble) (kk : Byte) (s : State) : Host.Outcome State Fault Refusal :=
  .next (s.setV x kk)

/-- `7xkk` (R152): the carry is discarded. -/
def execAddImm (x : Nibble) (kk : Byte) (s : State) : Host.Outcome State Fault Refusal :=
  .next (s.setV x (s.getV x + kk))

/-- `8xy0` (R153). -/
def execLdReg (x y : Nibble) (s : State) : Host.Outcome State Fault Refusal :=
  .next (s.setV x (s.getV y))

/-- A logic operation: VF is cleared first under VF_RESET, then the operands are read (R154 to R156). -/
def State.logic (s : State) (op : Byte → Byte → Byte) (x y : Nibble) : State :=
  s.resetVF.setV x (op (s.resetVF.getV x) (s.resetVF.getV y))

/-- `8xy1` (R154). -/
def execOr (x y : Nibble) (s : State) : Host.Outcome State Fault Refusal :=
  .next (s.logic (fun a b => a ||| b) x y)

/-- `8xy2` (R155). -/
def execAnd (x y : Nibble) (s : State) : Host.Outcome State Fault Refusal :=
  .next (s.logic (fun a b => a &&& b) x y)

/-- `8xy3` (R156). -/
def execXor (x y : Nibble) (s : State) : Host.Outcome State Fault Refusal :=
  .next (s.logic (fun a b => a ^^^ b) x y)

/-- A result to `V[x]`, then a flag to VF, both computed before the first write (R157, R158, R160). -/
def State.resultThenFlag (s : State) (x : Nibble) (result flag : Byte) : State := (s.setV x result).setVF flag

/-- `8xy4` (R157). -/
def execAddReg (x y : Nibble) (s : State) : Host.Outcome State Fault Refusal :=
  .next (s.resultThenFlag x (s.getV x + s.getV y) (carryFlag (s.getV x) (s.getV y)))

/-- `8xy5` (R158). -/
def execSub (x y : Nibble) (s : State) : Host.Outcome State Fault Refusal :=
  .next (s.resultThenFlag x (s.getV x - s.getV y) (notBorrowFlag (s.getV x) (s.getV y)))

/-- `8xy7` (R160). -/
def execSubn (x y : Nibble) (s : State) : Host.Outcome State Fault Refusal :=
  .next (s.resultThenFlag x (s.getV y - s.getV x) (notBorrowFlag (s.getV y) (s.getV x)))

/-- A flag of `V[x]` to VF, then `V[x]` shifted: with x = 15 the flag is what is shifted (R159, R161, R164). -/
def State.flagThenShift (s : State) (x : Nibble) (flag shift : Byte → Byte) : State :=
  (s.setVF (flag (s.getV x))).setV x (shift ((s.setVF (flag (s.getV x))).getV x))

/-- `8xy6` (R159). -/
def execShr (x y : Nibble) (s : State) : Host.Outcome State Fault Refusal :=
  .next ((s.loadShiftOperand x y).flagThenShift x lowBitFlag (fun a => a >>> 1))

/-- `8xyE` (R161). -/
def execShl (x y : Nibble) (s : State) : Host.Outcome State Fault Refusal :=
  .next ((s.loadShiftOperand x y).flagThenShift x highBitFlag (fun a => a <<< 1))

/-- `Cxkk` (R162): a failure of the random-byte port is raised with the port's own error value (spec/90_conflicts.md C11)
and leaves `V[x]`. -/
def execRnd (x : Nibble) (kk : Byte) (s : State) : Host.Outcome State Fault Refusal :=
  .next
    (match s.randAnswer with
    | .failed f => s.randAsked.raise (.rngFailure f)
    | .byte r => s.randAsked.setV x (r &&& kk))

end Sys2Proof.Machine
end

