-- ==== Sys2Proof/Machine/Flow.lean ====
section
/-! DEFINITION. Control transfer (spec/40_flow.md). Every meaning is entered with the fetch done: `Pc` holds the address
of the next instruction in memory (R120). -/

namespace Sys2Proof.Machine

/-- `00EE` (R121). The fault is for `Sp` above 16, which no run reaches (log entry 15). -/
def execRet (s : State) : Host.Outcome State Fault Refusal :=
  if s.sp = 0 then .next (s.raise .stackUnderflow)
  else
    match s.top with
    | some w => .next (s.popTo w)
    | none => .fault .stackIndex

/-- `0nnn` (R122): nothing without a machine routine; an installed one has no contract (log entry 10). -/
def execSys (nnn : Addr) (s : State) : Host.Outcome State Fault Refusal :=
  if s.cfg.mroutine then .refused (.machineRoutineInstalled nnn) else .next s

/-- `1nnn` (R123). -/
def execJp (nnn : Addr) (s : State) : Host.Outcome State Fault Refusal :=
  .next (s.setPc (zextAddr nnn))

/-- `2nnn` (R124): the check comes before the push. -/
def execCall (nnn : Addr) (s : State) : Host.Outcome State Fault Refusal :=
  if 15 < s.sp.toNat then .next (s.raise .stackOverflow) else .next (s.push.setPc (zextAddr nnn))

/-- `Bxnn` (R125). -/
def execJpV0 (nnn : Addr) (s : State) : Host.Outcome State Fault Refusal :=
  .next (s.setPc (zextByte (s.jumpBase nnn) + zextAddr nnn))

end Sys2Proof.Machine
end

