-- ==== Sys2Proof/Machine/IndexMemory.lean ====
section
/-! DEFINITION. Index register and memory transfers (spec/43_index_memory.md). The one addressing mode is the bytes at
`I`; the bounds are checked before any byte moves (R180). -/

namespace Sys2Proof.Machine

/-- `Annn` (R181). -/
def execLdI (nnn : Addr) (s : State) : Host.Outcome State Fault Refusal :=
  .next (s.setI (zextAddr nnn))

/-- `Fx1E` (R182): modulo 2^16, no flag. -/
def execAddI (x : Nibble) (s : State) : Host.Outcome State Fault Refusal :=
  .next (s.setI (s.i + zextByte (s.getV x)))

/-- `Fx29` (R183). -/
def execLdF (x : Nibble) (s : State) : Host.Outcome State Fault Refusal :=
  .next (s.setI (fontAddr (s.getV x)))

/-- `Fx33` (R184): `I` is unchanged. -/
def execLdB (x : Nibble) (s : State) : Host.Outcome State Fault Refusal :=
  match s.memWrite s.indexAddr (bcdDigits (s.getV x)) with
  | .error e => .next (s.raise e)
  | .ok t => .next t

/-- `Fx55` (R185). -/
def execLdMemVx (x : Nibble) (s : State) : Host.Outcome State Fault Refusal :=
  match s.memWrite s.indexAddr (s.regsUpTo x) with
  | .error e => .next (s.raise e)
  | .ok t => .next (t.advanceI x)

/-- `Fx65` (R186). -/
def execLdVxMem (x : Nibble) (s : State) : Host.Outcome State Fault Refusal :=
  match s.memRead s.indexAddr (transferCount x) with
  | .error e => .next (s.raise e)
  | .ok bs => .next ((s.setRegsFrom 0 bs).advanceI x)

end Sys2Proof.Machine
end

