-- ==== Sys2Proof/Machine/KeysTimers.lean ====
section
/-! DEFINITION. Keyboard and timer instructions (spec/45_keys_timers.md). -/

namespace Sys2Proof.Machine

/-- `Ex9E` (R231). -/
def execSkp (x : Nibble) (s : State) : Host.Outcome State Fault Refusal :=
  .next ((s.keyPressedAsked (s.getV x)).skipIf (s.keyPressedAnswer (s.getV x)))

/-- `ExA1` (R232). -/
def execSknp (x : Nibble) (s : State) : Host.Outcome State Fault Refusal :=
  .next ((s.keyPressedAsked (s.getV x)).skipIf (!s.keyPressedAnswer (s.getV x)))

/-- `Fx0A` (R233): the instruction completes at once; the scheduler waits. -/
def execLdVxK (x : Nibble) (s : State) : Host.Outcome State Fault Refusal :=
  .next { s with waitingForKey := true, keyTarget := x }

/-- `Fx07` (R234). -/
def execLdVxDt (x : Nibble) (s : State) : Host.Outcome State Fault Refusal :=
  .next (s.setV x s.dt)

/-- `Fx15` (R235). -/
def execLdDtVx (x : Nibble) (s : State) : Host.Outcome State Fault Refusal :=
  .next { s with dt := s.getV x }

/-- `Fx18` (R236): the Buzzer is not touched. -/
def execLdStVx (x : Nibble) (s : State) : Host.Outcome State Fault Refusal :=
  .next { s with st := s.getV x }

end Sys2Proof.Machine
end

