-- ==== Sys2Proof/Machine/Screen.lean ====
section
/-! DEFINITION. The screen engine and its two instructions (spec/44_draw.md; log entry 20). -/

namespace Sys2Proof.Machine

/-- `ROWB`, the bytes of a row (spec/44_draw.md R200). -/
def Configuration.rowBytes (c : Configuration) : Nat := c.screenW / 8

/-- `FB_LEN` (spec/10_state.md R34). -/
def Configuration.fbLen (c : Configuration) : Nat := c.screenW * c.screenH / 8

/-- The constraints of spec/00_scope.md R7 on the quantities that rules read: the screen size and `CPF`. -/
def Configuration.ok (c : Configuration) : Bool :=
  c.screenW % 8 == 0 && 8 ≤ c.screenW && c.screenW ≤ 256 && 1 ≤ c.screenH && c.screenH ≤ 256 && 1 ≤ c.cpf

/-- The constraint of spec/00_scope.md R7 on the speed numbers, which no rule of a tick reads. -/
def Configuration.speedOk (c : Configuration) : Bool := c.speedMin ≤ c.speedHz && c.speedHz ≤ c.speedMax

/-- The pixel at row `r`, column `col`: bit `7 - (p mod 8)` of byte `p div 8`, where `p = r * SCREEN_W + col`
(spec/10_state.md R35). -/
def pixelAt (c : Configuration) (fb : List Byte) (r col : Nat) : Bool :=
  (fb.getD ((r * c.screenW + col) / 8) 0).getLsbD (7 - (r * c.screenW + col) % 8)

/-- XOR a mask into byte `b` of the framebuffer (spec/44_draw.md R204). -/
def xorByte (fb : List Byte) (b : Nat) (m : Byte) : List Byte := fb.set b (fb.getD b 0 ^^^ m)

/-- The collision of one target byte, `(previousByte & ~newByte) != 0` (spec/44_draw.md R204). -/
def byteCollides (old new : Byte) : Bool := old &&& ~~~new != 0

/-- The byte that takes the right part of a misaligned sprite byte: the next one, or the first of the same row
(spec/44_draw.md R204). -/
def nextInRow (rowBytes row b : Nat) : Nat := if (row + 1) * rowBytes ≤ b + 1 then row * rowBytes else b + 1

/-- `Blit` of sprite byte `s` with its leftmost pixel at bit offset `off` of row `row`: the new framebuffer and the
collision (spec/44_draw.md R204). -/
def blitAt (rowBytes row off : Nat) (s : Byte) (fb : List Byte) : List Byte × Bool :=
  let b0 := off / 8
  let sh := off % 8
  let old0 := fb.getD b0 0
  if sh = 0 then
    (xorByte fb b0 s, byteCollides old0 (old0 ^^^ s))
  else
    let lo := s >>> sh
    let hi := s <<< (8 - sh)
    let fb1 := xorByte fb b0 lo
    let b1 := nextInRow rowBytes row b0
    let old1 := fb1.getD b1 0
    (xorByte fb1 b1 hi, byteCollides old0 (old0 ^^^ lo) || byteCollides old1 (old1 ^^^ hi))

/-- `Blit(xc, yc, s)` on a framebuffer (spec/44_draw.md R204): the coordinates wrap, nothing is clipped (R208). -/
def blit (c : Configuration) (xc yc s : Byte) (fb : List Byte) : List Byte × Bool :=
  let col := xc.toNat % c.screenW
  let row := yc.toNat % c.screenH
  blitAt c.rowBytes row (row * c.screenW + col) s fb

/-- The blits of sprite rows `r`, `r + 1`, ... in order: the row argument is `cy +_8 r` (spec/44_draw.md R202, R203). The
result is the framebuffer and the OR of the rows' collisions. -/
def drawRows (c : Configuration) (cx cy : Byte) : Nat → List Byte → List Byte → List Byte × Bool
  | _, [], fb => (fb, false)
  | r, b :: bs, fb =>
    let here := blit c cx (cy + BitVec.ofNat 8 r) b fb
    let below := drawRows c cx cy (r + 1) bs here.1
    (below.1, here.2 || below.2)

/-- The draw of sprite bytes `bs` at column `cx`, row `cy`. Every blit sets `dirty`, so an empty sprite leaves it
(spec/10_state.md R36); VF is always written, last (spec/44_draw.md R202). -/
def State.draw (s : State) (cx cy : Byte) (bs : List Byte) : State :=
  let res := drawRows s.cfg cx cy 0 bs s.fb
  { s with fb := res.1, dirty := s.dirty || !bs.isEmpty }.setVF (flagByte res.2)

/-- The framebuffer all zero and `dirty` set. -/
def State.clearScreen (s : State) : State := { s with fb := List.replicate s.cfg.fbLen 0, dirty := true }

/-- `00E0` (R201). -/
def execCls (s : State) : Host.Outcome State Fault Refusal := .next s.clearScreen

/-- `Dxyn` (R202): the coordinates are read before VF is written, the bounds are checked before the first blit. The
fault is for a framebuffer that is not `FB_LEN` bytes long, which no run reaches (log entry 15). -/
def execDrw (x y n : Nibble) (s : State) : Host.Outcome State Fault Refusal :=
  match s.memRead s.indexAddr n.toNat with
  | .error e => .next (s.raise e)
  | .ok bs => if s.fb.length = s.cfg.fbLen then .next (s.draw (s.getV x) (s.getV y) bs) else .fault .framebufferSize

end Sys2Proof.Machine
end

