-- ==== Sys2Proof/Syntax.lean ====
section
/-! DEFINITION. The 35 instructions, one constructor per row of spec/opcode_table.json (spec/30_encoding.md R97). -/

namespace Sys2Proof

/-- An instruction with its fields. A field has the width the encoding gives it (spec/30_encoding.md R91), so every
operand is in range by its type; the one remaining constraint is `Instr.wf`. -/
inductive Instr where
  /-- `00E0` -/
  | cls
  /-- `00EE` -/
  | ret
  /-- `0nnn`, other than `00E0` and `00EE` -/
  | sys (nnn : Addr)
  /-- `1nnn` -/
  | jp (nnn : Addr)
  /-- `2nnn` -/
  | call (nnn : Addr)
  /-- `3xkk` -/
  | seImm (x : Nibble) (kk : Byte)
  /-- `4xkk` -/
  | sneImm (x : Nibble) (kk : Byte)
  /-- `5xy0` -/
  | seReg (x y : Nibble)
  /-- `6xkk` -/
  | ldImm (x : Nibble) (kk : Byte)
  /-- `7xkk` -/
  | addImm (x : Nibble) (kk : Byte)
  /-- `8xy0` -/
  | ldReg (x y : Nibble)
  /-- `8xy1` -/
  | or (x y : Nibble)
  /-- `8xy2` -/
  | and (x y : Nibble)
  /-- `8xy3` -/
  | xor (x y : Nibble)
  /-- `8xy4` -/
  | addReg (x y : Nibble)
  /-- `8xy5` -/
  | sub (x y : Nibble)
  /-- `8xy6` -/
  | shr (x y : Nibble)
  /-- `8xy7` -/
  | subn (x y : Nibble)
  /-- `8xyE` -/
  | shl (x y : Nibble)
  /-- `9xy0` -/
  | sneReg (x y : Nibble)
  /-- `Annn` -/
  | ldI (nnn : Addr)
  /-- `Bxnn`; the register number `x` is the top nibble of the same `nnn` (spec/40_flow.md R125) -/
  | jpV0 (nnn : Addr)
  /-- `Cxkk` -/
  | rnd (x : Nibble) (kk : Byte)
  /-- `Dxyn` -/
  | drw (x y n : Nibble)
  /-- `Ex9E` -/
  | skp (x : Nibble)
  /-- `ExA1` -/
  | sknp (x : Nibble)
  /-- `Fx07` -/
  | ldVxDt (x : Nibble)
  /-- `Fx0A` -/
  | ldVxK (x : Nibble)
  /-- `Fx15` -/
  | ldDtVx (x : Nibble)
  /-- `Fx18` -/
  | ldStVx (x : Nibble)
  /-- `Fx1E` -/
  | addI (x : Nibble)
  /-- `Fx29` -/
  | ldF (x : Nibble)
  /-- `Fx33` -/
  | ldB (x : Nibble)
  /-- `Fx55` -/
  | ldMemVx (x : Nibble)
  /-- `Fx65` -/
  | ldVxMem (x : Nibble)
  deriving DecidableEq, Repr

end Sys2Proof
end

