-- ==== Sys2Proof/Machine/Fetch.lean ====
section
/-! DEFINITION. Instruction fetch (spec/48_scheduler.md R257), and the placing of an instruction where the next step
fetches it. -/

namespace Sys2Proof.Machine

/-- The word at `Pc`, big-endian (spec/20_memory.md R66). -/
def State.fetchedWord (s : State) : Word := wordOfBytes (s.readByte s.pc.toNat) (s.readByte (s.pc.toNat + 1))

/-- `Fetch()`: the word, and the state with `Ir` holding it and `Pc` advanced by 2; the error when the word does not lie
in memory, with `Pc` and `Ir` unchanged. No alignment check (spec/20_memory.md R67). -/
def State.fetch (s : State) : Except Error (Word × State) :=
  if Config.memSize ≤ s.pc.toNat + 1 then .error (.memoryBounds s.pc.toNat)
  else .ok (s.fetchedWord, { s with ir := s.fetchedWord }.advancePc)

/-- Where `State.placeWord` puts a word: at `Pc`, or at the program base when no word at `Pc` lies in memory. -/
def State.placeAddr (s : State) : Nat := if Config.memSize ≤ s.pc.toNat + 1 then Config.progBase else s.pc.toNat

/-- The state with the two bytes of `w` stored where the next fetch reads them, and with nothing left that would keep
the next step from fetching: booted, not paused, not halted, in no key wait, the Loop on, no command waiting
(log entry 2). -/
def State.placeWord (s : State) (w : Word) : State :=
  { s with
    mem := Memory.writeBytes s.cfg.font s.mem s.placeAddr (bytesOfWord w)
    pc := BitVec.ofNat 16 s.placeAddr
    isBooted := true
    isPaused := false
    waitingForKey := false
    waitingForRelease := false
    lastError := none
    looping := true
    commands := [] }

end Sys2Proof.Machine
end

