-- ==== Sys2Proof/Machine/Scheduler.lean ====
section
/-! DEFINITION. The scheduler's tick (spec/48_scheduler.md R250; the spec's decisions it follows: log entry 18). -/

namespace Sys2Proof.Machine

/-- The return of a tick: the result is put out; a result that reports done or an error ends the run (R271) and the Loop
(R259, R268). R259 says it of done whoever issued the tick; that an error of a LoopOnce or SingleFrame tick ends the Loop
too is the model's DESIGN CHOICE, unsafe: log entry 4. -/
def State.endTick (s : State) (done : Bool) (err : Option Error) : State :=
  { s with
    looping := s.looping && !(done || err.isSome)
    inRun := s.inRun && !(done || err.isSome) }.emit (.tickResult done err)

/-! ### Key wait (R256) -/

/-- `KeyWaitStep()`: one poll. -/
def State.keyWaitStep (s : State) : State :=
  if s.waitingForKey then
    match s.keyAnyAnswer with
    | some key =>
      { s.keyAnyAsked.setV s.keyTarget key with heldKey := key, waitingForKey := false, waitingForRelease := true }
    | none => s.keyAnyAsked
  else if s.keyPressedAnswer s.heldKey then s.keyPressedAsked s.heldKey
  else { s.keyPressedAsked s.heldKey with waitingForRelease := false }

/-! ### The frame boundary (R260 to R264) -/

/-- One timer one frame later, floored at 0 (R261). -/
def decay (t : Byte) : Byte := if 0 < t.toNat then t - 1 else 0

/-- Both timers one frame later (R261). -/
def State.decayTimers (s : State) : State := { s with dt := decay s.dt, st := decay s.st }

/-- `if St > 0 then Play()` (R262). -/
def State.strobeBuzzer (s : State) : State := if 0 < s.st.toNat then s.emit .play else s

/-- The render push and the frame counter (R263, R264); a failed render raises `DisplayFailure`, the Display's own
error value in it, with `dirty` still set and `frames` not incremented (R265). -/
def State.pushFrame (s : State) : State :=
  if s.dirty then
    match s.renderAnswer with
    | .rendered => { s.renderAsked with dirty := false, frames := s.frames + 1 }
    | .failed f => s.renderAsked.raise (.displayFailure f)
  else { s with frames := s.frames + 1 }

/-- `FrameBoundary()`. -/
def State.frameBoundary (s : State) : State := s.decayTimers.strobeBuzzer.pushFrame

/-! ### The cycle (R257, R258) -/

/-- `Execute(op)`: the instruction the word selects, or `UnknownOpcode` with the advanced `Pc` (R257,
spec/60_exceptions.md R302). -/
def execute (op : Word) (s : State) : Host.Outcome State Fault Refusal :=
  match decodeWord op with
  | .ok i => exec i s
  | .error _ => .next (s.raise (.unknownOpcode op s.pc))

/-- `cycles <- cycles + 1`, then the `AfterCycle` strobe (R258). -/
def State.countCycle (s : State) : State := { s with cycles := s.cycles + 1 }.emit (.strobe .afterCycle)

/-- The done test, on the `Pc` the instruction left (R258). -/
def State.pastEnd (s : State) : Bool := Config.memSize ≤ s.pc.toNat

/-- T5: the frame boundary, in a tick that executed an instruction, when `cycles` is a multiple of `CPF` (R260). -/
def State.boundaryIfDue (s : State) : State := if s.cycles % s.cfg.cpf = 0 then s.frameBoundary else s

/-- The rest of a tick after its instruction completed without error: counter, strobe, done test, frame boundary, T6. -/
def State.afterInstruction (s : State) : State :=
  match s.countCycle.boundaryIfDue.lastError with
  | some e => s.countCycle.boundaryIfDue.endTick false (some e)
  | none => (s.countCycle.boundaryIfDue.emit (.strobe .afterFrame)).endTick s.pastEnd none

/-- The rest of a tick after its instruction: nothing more runs when it raised an error (R265). -/
def State.endCycle (s : State) : State :=
  match s.lastError with
  | some e => s.endTick false (some e)
  | none => s.afterInstruction

/-- T4, T5 and T6 of a tick that executes an instruction. -/
def cycle (s : State) : Host.Outcome State Fault Refusal :=
  match s.fetch with
  | .error e => .next ((s.raise e).endTick false (some e))
  | .ok (op, t) =>
    match execute op t with
    | .next u => .next (u.endCycle)
    | .fault r => .fault r
    | .refused r => .refused r

/-! ### The tick (R250) -/

/-- A tick before Boot: the error is returned and not stored, and no core state changes (R251); the Loop stops (R268) and
the run goes on (log entry 8). -/
def State.tickNotBooted (s : State) : State :=
  { s with looping := false }.emit (.tickResult false (some .notBooted))

/-- `Tick(bypass)`: the bypass affects T2 only (R267). -/
def tick (bypass : Bool) (s : State) : Host.Outcome State Fault Refusal :=
  if !s.isBooted then .next (s.tickNotBooted)
  else
    match s.lastError with
    | some e => .next (s.endTick false (some e))
    | none =>
      if s.isPaused && !bypass then .next ((s.emit (.strobe .beforeFrame)).endTick false none)
      else if s.waitingForKey || s.waitingForRelease then
        .next (((s.emit (.strobe .beforeFrame)).keyWaitStep.emit (.strobe .afterFrame)).endTick false none)
      else cycle ((s.emit (.strobe .beforeFrame)).emit (.strobe .beforeCycle))

end Sys2Proof.Machine
end

