-- ==== Sys2Proof/Machine/Snapshot.lean ====
section
/-! DEFINITION. The debug snapshot (spec/60_exceptions.md R336). -/

namespace Sys2Proof.Machine

/-- The two bytes of a 16-bit field, in the order of the open parameter `SNAPSHOT_ORDER`. -/
def snapshotField (order : ByteOrder) (w : Word) : List Byte :=
  match order with
  | .highFirst => [highByte w, lowByte w]
  | .lowFirst => [lowByte w, highByte w]

/-- The 57-byte record: `Ir`, `Pc`, V0 to VF, `I`, `Sp`, the stack, `Dt`, `St`. -/
def State.snapshotBytes (s : State) (order : ByteOrder) : List Byte :=
  snapshotField order s.ir ++ snapshotField order s.pc ++ s.v.toList ++ snapshotField order s.i ++ [s.sp] ++
    s.stack.toList.flatMap (snapshotField order) ++ [s.dt, s.st]

end Sys2Proof.Machine
end

