-- ==== Sys2Proof/Machine/Commands.lean ====
section
/-! DEFINITION. The host's commands (spec/60_exceptions.md R320), each taken between ticks (R326), and what one step of
the machine does: the next command if one waits, else a tick of the Loop, else nothing. -/

namespace Sys2Proof.Machine

/-! ### Power-on, Boot, LoadProgram (spec/70_reset_and_hazards.md) -/

/-- The Cpu constructed again: every field of the core at its power-on value, with the values configured now
(spec/70_reset_and_hazards.md R351, spec/60_exceptions.md R314; log entry 14). The run and a Loop that is issuing ticks
end here, with no result of a tick: the spec does not say what power-on does to a Loop (spec/48_scheduler.md R268).
DESIGN CHOICE, unsafe: log entry 27. -/
def State.restart (s : State) : State :=
  { State.powerOn s.q s.cfg with commands := s.commands, env := s.env, draws := s.draws, out := s.out }

/-- The ports booted in order: the first that fails, and the state after the questions asked
(spec/70_reset_and_hazards.md R352). -/
def State.bootPorts (s : State) : List Port → Option Port × State
  | [] => (none, s)
  | p :: ps => if s.portBootAnswer p then (s.portBootAsked p).bootPorts ps else (some p, s.portBootAsked p)

/-- `Boot(run)` (spec/70_reset_and_hazards.md R352). -/
def State.boot (s : State) (run : Bool) : State :=
  if s.isBooted then s.emit (.commandResult none)
  else
    match s.bootPorts [.display, .keyboard, .buzzer] with
    | (some p, t) => t.emit (.commandResult (some (.portBootFailure p)))
    | (none, t) => { t with isBooted := true, isPaused := !run }.emit (.commandResult none)

/-- The reset of a LoadProgram that fits: all program state at its value after LoadProgram, the program at 0x200, FONT
below 80 and 0 elsewhere; `isBooted`, `isPaused`, `Q` and the configuration unchanged (spec/70_reset_and_hazards.md R354). -/
def State.loaded (s : State) (p : List Byte) : State :=
  { State.powerOn s.q s.cfg with
    pc := BitVec.ofNat 16 Config.progBase
    mem := Memory.writeBytes s.cfg.font [] Config.progBase p
    isBooted := s.isBooted
    isPaused := s.isPaused
    looping := s.looping
    inRun := true
    commands := s.commands
    env := s.env
    draws := s.draws
    out := s.out }

/-- `LoadProgram(p)`: a program that is too long changes nothing (spec/70_reset_and_hazards.md R354). -/
def State.loadProgram (s : State) (p : List Byte) : State :=
  if Config.progMax < p.length then s.emit (.commandResult (some (.programTooLarge p.length)))
  else (s.loaded p).emit (.commandResult none)

/-! ### Reconfiguration (spec/10_state.md R42, R43) -/

/-- The framebuffer after the configuration is rewritten: the same when the screen size is, else bytes that are free
values (log entry 13). -/
def State.resizedFb (s : State) (c : Configuration) : List Byte :=
  if c.screenW = s.cfg.screenW ∧ c.screenH = s.cfg.screenH then s.fb
  else (List.range c.fbLen).map (Config.framebufferByte s.draws)

/-- `Q` and the configuration register rewritten, between runs and to legal values only. -/
def reconfigure (q : BitVec 5) (c : Configuration) (s : State) : Host.Outcome State Fault Refusal :=
  if s.inRun then .refused .midRunReconfiguration
  else if c.ok && c.speedOk then .next { s with q := q, cfg := c, fb := s.resizedFb c, draws := s.draws + 1 }
  else .refused .badConfiguration

/-- What a command does (spec/60_exceptions.md R320). -/
def command (c : Command) (s : State) : Host.Outcome State Fault Refusal :=
  match c with
  | .powerOn => .next s.restart
  | .boot run => .next (s.boot run)
  | .loadProgram p => .next (s.loadProgram p)
  | .start => .next { s with isPaused := false }
  | .stop => .next { s with isPaused := true }
  | .loop => .next { s with looping := true }
  | .loopOnce => tick true s
  | .singleFrame => tick true s
  | .setQuirks q => reconfigure q s.cfg s
  | .setCpf n => reconfigure s.q { s.cfg with cpf := n } s
  | .setScreen w h => reconfigure s.q { s.cfg with screenW := w, screenH := h } s
  | .setSpeed hz lo hi => reconfigure s.q { s.cfg with speedHz := hz, speedMin := lo, speedMax := hi } s
  | .snapshot => .next (s.emit (.snapshot (s.snapshotBytes Config.snapshotOrder)))

/-! ### One step -/

/-- One step: outputs of the last step dropped; a command that waits is taken, else the Loop issues a tick, else nothing
happens (spec/60_exceptions.md R326, spec/48_scheduler.md R268; log entries 4, 5, 7). A configuration outside the
constraints is refused (log entry 9). -/
def advance (s : State) : Host.Outcome State Fault Refusal :=
  if s.cfg.ok then
    match s.commands with
    | c :: cs => command c { s with commands := cs, out := [] }
    | [] => if s.looping then tick false { s with out := [] } else .next { s with out := [] }
  else .refused .badConfiguration

end Sys2Proof.Machine
end

