-- ==== Sys2Proof/Safety.lean ====
section
/-! DEFINITION. What claims are stated in: the invariant of the machine, when a step runs an instruction, which parts of
the state an instruction may write, and the screen as pixels. -/

namespace Sys2Proof.Machine

/-! ### The states a run can be in -/

/-- The invariant of the machine. Each field is a sentence of the spec about every state. -/
structure State.Inv (s : State) : Prop where
  /-- Memory is in canonical form, all of it below 4096 (spec/20_memory.md R60). -/
  memWf : Memory.wf s.cfg.font s.mem = true
  /-- The configuration meets the constraints of spec/00_scope.md R7. -/
  cfgOk : s.cfg.ok = true
  /-- The framebuffer is `FB_LEN` bytes long (spec/10_state.md R34). -/
  fbLen : s.fb.length = s.cfg.fbLen
  /-- `Sp` never leaves 0 to 16 (spec/10_state.md R26). -/
  spRange : s.sp.toNat ≤ 16
  /-- The reachable values of `Pc` are 0 to 0x10FE (spec/10_state.md R25). -/
  pcRange : s.pc.toNat ≤ 0x10FE
  /-- Every stack entry is 0 or the address after a fetched word, so at most 0x1000 (spec/10_state.md R23, R27). -/
  stackRange : ∀ w ∈ s.stack.toList, w.toNat ≤ 0x1000
  /-- At most one phase of the key wait is on (spec/10_state.md R46). -/
  oneWait : ¬(s.waitingForKey = true ∧ s.waitingForRelease = true)
  /-- Only a sticky error is stored (spec/60_exceptions.md R301). -/
  stored : ∀ e, s.lastError = some e → e.sticky = true

/-! ### When a step is a tick, and how far the tick goes -/

/-- The next step is a tick, and `cs` are the commands that wait after it: in a legal configuration the Loop issues the
tick when no command waits, and LoopOnce or SingleFrame, at the head of the list, forces one (spec/48_scheduler.md R267,
R268). -/
def State.Issued (s : State) (cs : List Command) : Prop :=
  s.cfg.ok = true ∧
    ((s.commands = [] ∧ cs = [] ∧ s.looping = true) ∨ s.commands = .loopOnce :: cs ∨ s.commands = .singleFrame :: cs)

/-- The next step is a tick that passes T0, T0' and T2 of spec/48_scheduler.md R250: booted, no stored error, and not
paused unless the tick is forced. -/
def State.Ticking (s : State) (cs : List Command) : Prop :=
  s.Issued cs ∧ s.isBooted = true ∧ s.lastError = none ∧ (s.isPaused = false ∨ s.commands ≠ [])

/-- The next step is a tick that fetches: `Ticking`, and in no key wait (spec/48_scheduler.md R250, T4). -/
def State.Ready (s : State) (cs : List Command) : Prop :=
  s.Ticking cs ∧ s.waitingForKey = false ∧ s.waitingForRelease = false

/-- The state an instruction is entered with (spec/40_flow.md R120): the command that forced the tick, if one did, taken,
the strobes before it put out, the fetch done. -/
def State.entered (s : State) (cs : List Command) : State :=
  { s with
    commands := cs
    out := [.strobe .beforeFrame, .strobe .beforeCycle]
    ir := wordOfBytes (s.readByte s.pc.toNat) (s.readByte (s.pc.toNat + 1))
    pc := s.pc + 2 }

/-- The bytes at `Pc` lie in memory and decode to `i`. -/
def State.AtInstr (s : State) (i : Instr) : Prop :=
  s.pc.toNat + 1 < Config.memSize ∧
    decodeBytes [s.readByte s.pc.toNat, s.readByte (s.pc.toNat + 1)] = .ok (i, [])

end Sys2Proof.Machine

namespace Sys2Proof

/-! ### What an instruction may write -/

/-- The stores (spec/20_memory.md R62). -/
def Instr.storesMemory : Instr → Bool
  | .ldB _ | .ldMemVx _ => true
  | .cls | .ret | .sys _ | .jp _ | .call _ | .seImm _ _ | .sneImm _ _ | .seReg _ _ | .ldImm _ _ | .addImm _ _ | .ldReg _ _
  | .or _ _ | .and _ _ | .xor _ _ | .addReg _ _ | .sub _ _ | .shr _ _ | .subn _ _ | .shl _ _ | .sneReg _ _ | .ldI _
  | .jpV0 _ | .rnd _ _ | .drw _ _ _ | .skp _ | .sknp _ | .ldVxDt _ | .ldVxK _ | .ldDtVx _ | .ldStVx _ | .addI _
  | .ldF _ | .ldVxMem _ => false

/-- The jumps, call, return and skips: the writers of `Pc` besides the fetch (spec/10_state.md R24). -/
def Instr.writesPc : Instr → Bool
  | .ret | .jp _ | .call _ | .jpV0 _ | .seImm _ _ | .sneImm _ _ | .seReg _ _ | .sneReg _ _ | .skp _ | .sknp _ => true
  | .cls | .sys _ | .ldImm _ _ | .addImm _ _ | .ldReg _ _ | .or _ _ | .and _ _ | .xor _ _ | .addReg _ _ | .sub _ _
  | .shr _ _ | .subn _ _ | .shl _ _ | .ldI _ | .rnd _ _ | .drw _ _ _ | .ldVxDt _ | .ldVxK _ | .ldDtVx _ | .ldStVx _
  | .addI _ | .ldF _ | .ldB _ | .ldMemVx _ | .ldVxMem _ => false

/-- The writers of `I` in a machine whose MEM_ADV_I is `memAdvI` (spec/10_state.md R22). -/
def Instr.writesI (memAdvI : Bool) : Instr → Bool
  | .ldI _ | .addI _ | .ldF _ => true
  | .ldMemVx _ | .ldVxMem _ => memAdvI
  | .cls | .ret | .sys _ | .jp _ | .call _ | .seImm _ _ | .sneImm _ _ | .seReg _ _ | .ldImm _ _ | .addImm _ _ | .ldReg _ _
  | .or _ _ | .and _ _ | .xor _ _ | .addReg _ _ | .sub _ _ | .shr _ _ | .subn _ _ | .shl _ _ | .sneReg _ _
  | .jpV0 _ | .rnd _ _ | .drw _ _ _ | .skp _ | .sknp _ | .ldVxDt _ | .ldVxK _ | .ldDtVx _ | .ldStVx _ | .ldB _ => false

/-- The registers an instruction may write in a machine whose VF_RESET is `vfReset`: its destination, and VF where the
spec lists the instruction as a flag writer (spec/10_state.md R20, R21). -/
def Instr.writesV (vfReset : Bool) : Instr → Nibble → Bool
  | .ldImm x _, r | .addImm x _, r | .ldReg x _, r | .rnd x _, r | .ldVxDt x, r => r == x
  | .or x _, r | .and x _, r | .xor x _, r => r == x || (vfReset && r == 15#4)
  | .addReg x _, r | .sub x _, r | .shr x _, r | .subn x _, r | .shl x _, r => r == x || r == 15#4
  | .drw _ _ _, r => r == 15#4
  | .ldVxMem x, r => r.toNat ≤ x.toNat
  | .cls, _ | .ret, _ | .sys _, _ | .jp _, _ | .call _, _ | .seImm _ _, _ | .sneImm _ _, _ | .seReg _ _, _
  | .sneReg _ _, _ | .ldI _, _ | .jpV0 _, _ | .skp _, _ | .sknp _, _ | .ldVxK _, _ | .ldDtVx _, _ | .ldStVx _, _
  | .addI _, _ | .ldF _, _ | .ldB _, _ | .ldMemVx _, _ => false

/-- The two writers of `Sp` and the stack (spec/10_state.md R26, R27). -/
def Instr.usesStack : Instr → Bool
  | .ret | .call _ => true
  | .cls | .sys _ | .jp _ | .seImm _ _ | .sneImm _ _ | .seReg _ _ | .ldImm _ _ | .addImm _ _ | .ldReg _ _
  | .or _ _ | .and _ _ | .xor _ _ | .addReg _ _ | .sub _ _ | .shr _ _ | .subn _ _ | .shl _ _ | .sneReg _ _ | .ldI _
  | .jpV0 _ | .rnd _ _ | .drw _ _ _ | .skp _ | .sknp _ | .ldVxDt _ | .ldVxK _ | .ldDtVx _ | .ldStVx _ | .addI _
  | .ldF _ | .ldB _ | .ldMemVx _ | .ldVxMem _ => false

/-- The two writers of the framebuffer (spec/44_draw.md R200). -/
def Instr.writesScreen : Instr → Bool
  | .cls | .drw _ _ _ => true
  | .ret | .sys _ | .jp _ | .call _ | .seImm _ _ | .sneImm _ _ | .seReg _ _ | .ldImm _ _ | .addImm _ _ | .ldReg _ _
  | .or _ _ | .and _ _ | .xor _ _ | .addReg _ _ | .sub _ _ | .shr _ _ | .subn _ _ | .shl _ _ | .sneReg _ _ | .ldI _
  | .jpV0 _ | .rnd _ _ | .skp _ | .sknp _ | .ldVxDt _ | .ldVxK _ | .ldDtVx _ | .ldStVx _ | .addI _
  | .ldF _ | .ldB _ | .ldMemVx _ | .ldVxMem _ => false

/-- The instructions that ask a port (spec/60_exceptions.md R329, R331). -/
def Instr.asksPort : Instr → Bool
  | .skp _ | .sknp _ | .rnd _ _ => true
  | .cls | .ret | .sys _ | .jp _ | .call _ | .seImm _ _ | .sneImm _ _ | .seReg _ _ | .ldImm _ _ | .addImm _ _ | .ldReg _ _
  | .or _ _ | .and _ _ | .xor _ _ | .addReg _ _ | .sub _ _ | .shr _ _ | .subn _ _ | .shl _ _ | .sneReg _ _ | .ldI _
  | .jpV0 _ | .drw _ _ _ | .ldVxDt _ | .ldVxK _ | .ldDtVx _ | .ldStVx _ | .addI _ | .ldF _ | .ldB _ | .ldMemVx _
  | .ldVxMem _ => false

end Sys2Proof

namespace Sys2Proof.Machine

/-! ### The screen as pixels (spec/44_draw.md R205, R206) -/

/-- Sprite byte `b` drawn at column `xc`, row `yc` has a pixel that is 1 at row `row`, column `col` of the screen: the
`j`-th pixel from the left stands at column `(xc mod SCREEN_W + j) mod SCREEN_W` of row `yc mod SCREEN_H`. -/
def spriteCovers (c : Configuration) (xc yc b : Byte) (row col : Nat) : Bool :=
  row == yc.toNat % c.screenH &&
    (List.range 8).any fun j => b.getLsbD (7 - j) && col == (xc.toNat % c.screenW + j) % c.screenW

/-- How often, modulo 2, the first `k` rows of a sprite drawn at column `cx`, row `cy` toggle a pixel. -/
def spriteParity (c : Configuration) (cx cy : Byte) (bs : List Byte) (row col : Nat) : Nat → Bool
  | 0 => false
  | k + 1 =>
    spriteParity c cx cy bs row col k ^^ spriteCovers c cx (cy + BitVec.ofNat 8 k) (bs.getD k 0) row col

/-- No two of the `n` rows of a sprite drawn at row `cy` share a screen row (spec/44_draw.md R207). -/
def rowsApart (c : Configuration) (cy : Byte) (n : Nat) : Prop :=
  ∀ j k, j < k → k < n → (cy + BitVec.ofNat 8 j).toNat % c.screenH ≠ (cy + BitVec.ofNat 8 k).toNat % c.screenH

/-- Some row of the sprite has a pixel that is 1 where the screen, as the rows before it left it, is lit. -/
def spriteHits (c : Configuration) (cx cy : Byte) (bs fb : List Byte) : Prop :=
  ∃ k row col, k < bs.length ∧ row < c.screenH ∧ col < c.screenW ∧
    (pixelAt c fb row col ^^ spriteParity c cx cy bs row col k) = true ∧
      spriteCovers c cx (cy + BitVec.ofNat 8 k) (bs.getD k 0) row col = true

end Sys2Proof.Machine
end

