-- ==== Sys2Proof/Certificates/Slice0/Obligations.lean ====
section
/-! DEFINITION. The statements for the provers, each with the rule of spec/ it formalises. "Everything else is
unchanged" is written `t = { s with f := t.f }`: `t` is `s` but for the field `f`. -/

open Sys2Proof Sys2Proof.Machine

/-! ## Encoding -/

/-- Decoding an encoded well-formed instruction gives it back, as a word and as bytes (spec/30_encoding.md R94, R97). -/
def Obligations.DecodeOfEncode : Prop :=
  ∀ i : Instr, i.wf = true → decodeWord (encode i) = .ok i ∧ decodeBytes (encodeBytes i) = .ok (i, [])

/-- Each legal word has one meaning: what it decodes to is well formed and encodes to it (spec/30_encoding.md R94). -/
def Obligations.EncodeOfDecode : Prop :=
  ∀ (w : Word) (i : Instr), decodeWord w = .ok i → i.wf = true ∧ encode i = w

/-- A word decodes to an instruction of a row exactly when `w and mask == match` for that row, where the `SYS` row also
requires that the word is neither 0x00E0 nor 0x00EE (spec/30_encoding.md R97). `j` names the row by any of its terms. -/
def Obligations.DecodeSelectsTableRow : Prop :=
  ∀ (w : Word) (j : Instr),
    (∃ i, decodeWord w = .ok i ∧ rowMatch i = rowMatch j ∧ rowMask i = rowMask j) ↔
      (w &&& rowMask j = rowMatch j ∧ (rowMatch j = 0x0000#16 → w ≠ 0x00E0#16 ∧ w ≠ 0x00EE#16))

/-- The words that are no instruction, family by family (the list of spec/30_encoding.md R98). -/
def Obligations.IllegalWordsAreUnknown : Prop :=
  ∀ w : Word, decodeWord w = .error (.unknown w) ↔
    (fieldH w = 0x5#4 ∧ fieldN w ≠ 0x0#4) ∨
    (fieldH w = 0x8#4 ∧ fieldN w ∈ [0x8#4, 0x9#4, 0xA#4, 0xB#4, 0xC#4, 0xD#4, 0xF#4]) ∨
    (fieldH w = 0x9#4 ∧ fieldN w ≠ 0x0#4) ∨
    (fieldH w = 0xE#4 ∧ fieldKk w ∉ [0x9E#8, 0xA1#8]) ∨
    (fieldH w = 0xF#4 ∧
      fieldKk w ∉ [0x07#8, 0x0A#8, 0x15#8, 0x18#8, 0x1E#8, 0x29#8, 0x33#8, 0x55#8, 0x65#8])

/-- Words of spec/95_test_vectors.md T8, written out from the opcode map, decode to the instructions they stand for. -/
def Obligations.SampleWordsDecode : Prop :=
  decodeWord 0x0000#16 = .ok (.sys 0x000#12) ∧ decodeWord 0x00E0#16 = .ok .cls ∧ decodeWord 0x00EE#16 = .ok .ret ∧
    decodeWord 0x10E0#16 = .ok (.jp 0x0E0#12) ∧ decodeWord 0x5AB0#16 = .ok (.seReg 0xA#4 0xB#4) ∧
    decodeWord 0x5AB1#16 = .error (.unknown 0x5AB1#16) ∧ decodeWord 0x8ABE#16 = .ok (.shl 0xA#4 0xB#4) ∧
    decodeWord 0xDABC#16 = .ok (.drw 0xA#4 0xB#4 0xC#4) ∧ decodeWord 0xE09E#16 = .ok (.skp 0x0#4) ∧
    decodeWord 0xF007#16 = .ok (.ldVxDt 0x0#4) ∧ decodeWord 0xFF55#16 = .ok (.ldMemVx 0xF#4)

/-! ## Reset -/

/-- The values after LoadProgram, of an empty program, for the state the spec gives a value there (the column "after
LoadProgram" of spec/10_state.md R50). That reset is the state after LoadProgram of an empty program is the model's
choice (log entry 1); the spec's decisions D13, D18, D19, D26. -/
def Obligations.ResetHoldsTheResetValues : Prop :=
  (∀ r, State.reset.getV r = 0) ∧ State.reset.i = 0 ∧ State.reset.pc = 0x200#16 ∧ State.reset.sp = 0 ∧
    (∀ w ∈ State.reset.stack.toList, w = 0) ∧ State.reset.dt = 0 ∧ State.reset.st = 0 ∧
    (∀ a, a < 80 → State.reset.readByte a = State.reset.cfg.font.toList.getD a 0) ∧
    (∀ a, 80 ≤ a → State.reset.readByte a = 0) ∧
    State.reset.fb = List.replicate State.reset.cfg.fbLen 0 ∧ State.reset.dirty = false ∧ State.reset.ir = 0 ∧
    State.reset.waitingForKey = false ∧ State.reset.waitingForRelease = false ∧ State.reset.keyTarget = 0 ∧
    State.reset.heldKey = 0 ∧ State.reset.lastError = none ∧ State.reset.cycles = 0 ∧ State.reset.frames = 0

/-- The invariant holds at reset. -/
def Obligations.ResetMeetsTheInvariant : Prop := State.reset.Inv

/-! ## The step -/

/-- Every step, a tick or a command of the host, keeps the invariant: memory in canonical form, `Sp` at most 16, `Pc` at
most 0x10FE, one phase of the key wait at most, a framebuffer of `FB_LEN` bytes, only sticky errors stored. -/
def Obligations.StepKeepsTheInvariant : Prop := ∀ s t : State, s.Inv → step s = .next t → t.Inv

/-- From a state that meets the invariant, with no machine routine installed and no command waiting, a step always
answers a next state: no instruction stops the model. -/
def Obligations.StepAlwaysAnswers : Prop :=
  ∀ s : State, s.Inv → s.cfg.mroutine = false → s.commands = [] → ∃ t, step s = .next t

/-- A step that is a tick, of the Loop or forced by LoopOnce or SingleFrame, runs the instruction that the bytes at `Pc`
decode to: `exec` of it on the state after the fetch, then the rest of the tick (`State.endCycle`). -/
def Obligations.StepRunsTheDecodedInstruction : Prop :=
  ∀ (s : State) (i : Instr) (cs : List Command), s.Ready cs → s.AtInstr i →
    step s =
      match exec i (s.entered cs) with
      | .next u => .next u.endCycle
      | .fault r => .fault r
      | .refused r => .refused r

/-- The rest of a tick whose instruction completed, when no frame boundary is due: the cycle counter, the strobes, the
done test on the `Pc` the instruction left; a done tick ends the Loop and the run (spec/48_scheduler.md R258). The
spec's decision D24. -/
def Obligations.CompletedInstructionTick : Prop :=
  ∀ (s u : State) (i : Instr) (cs : List Command), s.Ready cs → s.AtInstr i →
    exec i (s.entered cs) = .next u → u.lastError = none →
    (u.cycles + 1) % u.cfg.cpf ≠ 0 →
    step s = .next
      { u with
        cycles := u.cycles + 1
        looping := u.looping && !decide (4096 ≤ u.pc.toNat)
        inRun := u.inRun && !decide (4096 ≤ u.pc.toNat)
        out := u.out ++ [.strobe .afterCycle, .strobe .afterFrame, .tickResult (decide (4096 ≤ u.pc.toNat)) none] }

/-- The rest of a tick whose instruction completed, when a frame boundary is due and the render, if there is one,
succeeds (spec/48_scheduler.md R260 to R264): both timers decay with a floor at 0, then `Play` while `St` is above 0, then
the render when `dirty`, then the counters; the Loop and the run end exactly when the tick reports done (R259, R268, R271;
the model's flags, log entries 4 and 8). The spec's decisions D9, D10, D24. -/
def Obligations.FrameBoundaryTick : Prop :=
  ∀ (s u : State) (i : Instr) (cs : List Command), s.Ready cs → s.AtInstr i →
    exec i (s.entered cs) = .next u → u.lastError = none →
    (u.cycles + 1) % u.cfg.cpf = 0 → (u.dirty = false ∨ u.renderAnswer = .rendered) →
    ∃ t, step s = .next t ∧
      t = { u with
            dt := t.dt, st := t.st, dirty := false, cycles := u.cycles + 1, frames := u.frames + 1,
            env := t.env, draws := t.draws, looping := u.looping && !decide (4096 ≤ u.pc.toNat),
            inRun := u.inRun && !decide (4096 ≤ u.pc.toNat), out := t.out } ∧
      t.dt.toNat = u.dt.toNat - 1 ∧ t.st.toNat = u.st.toNat - 1 ∧
      t.out =
        u.out ++ [.strobe .afterCycle] ++ (if 1 < u.st.toNat then [.play] else []) ++
          (if u.dirty then [.render u.fb u.cfg.screenW u.cfg.screenH .rendered] else []) ++
          [.strobe .afterFrame, .tickResult (decide (4096 ≤ u.pc.toNat)) none]

/-- The tick whose render fails (spec/48_scheduler.md R265): the timers have decayed, `dirty` stays true, `frames` is not
incremented, the error is stored, the Display's own error value in it (spec/60_exceptions.md R301, spec/90_conflicts.md
C11), and `AfterFrame` is not strobed. The spec's decisions D7, D10. That a number stands for the error value is log entry
26, and that the error of a forced tick ends the Loop is the model's choice (log entry 4). -/
def Obligations.RenderFailureTick : Prop :=
  ∀ (s u : State) (i : Instr) (f : PortFailure) (cs : List Command), s.Ready cs → s.AtInstr i →
    exec i (s.entered cs) = .next u → u.lastError = none →
    (u.cycles + 1) % u.cfg.cpf = 0 → u.dirty = true → u.renderAnswer = .failed f →
    ∃ t, step s = .next t ∧
      t = { u with
            dt := t.dt, st := t.st, cycles := u.cycles + 1, lastError := some (.displayFailure f),
            env := t.env, draws := t.draws, looping := false, inRun := false, out := t.out } ∧
      t.dt.toNat = u.dt.toNat - 1 ∧ t.st.toNat = u.st.toNat - 1 ∧
      t.out =
        u.out ++ [.strobe .afterCycle] ++ (if 1 < u.st.toNat then [.play] else []) ++
          [.render u.fb u.cfg.screenW u.cfg.screenH (.failed f), .strobe .onError,
            .tickResult false (some (.displayFailure f))]

/-- The tick whose instruction raised an error: the error is returned, `cycles` is not incremented, no frame boundary is
processed and no further strobe is put out (spec/48_scheduler.md R265). The spec's decision D7. That the error of a forced
tick ends the Loop is the model's choice (log entry 4). -/
def Obligations.RaisedErrorEndsTheTick : Prop :=
  ∀ (s u : State) (i : Instr) (e : Error) (cs : List Command), s.Ready cs → s.AtInstr i →
    exec i (s.entered cs) = .next u → u.lastError = some e →
    step s = .next { u with looping := false, inRun := false, out := u.out ++ [.tickResult false (some e)] }

/-- A word that is no instruction halts the core with `UnknownOpcode`; only the fetch's writes have happened
(spec/60_exceptions.md R302, R309). Which `Pc` the error records is left open, as the rule asks. The spec's decisions
D7, D23. That the error of a forced tick ends the Loop is the model's choice (log entry 4). -/
def Obligations.UnknownWordTick : Prop :=
  ∀ (s : State) (cs : List Command), s.Ready cs → s.pc.toNat + 1 < 4096 →
    decodeWord (s.entered cs).ir = .error (.unknown (s.entered cs).ir) →
    ∃ p : Word, step s = .next
      { s.entered cs with
        lastError := some (.unknownOpcode (s.entered cs).ir p)
        looping := false
        inRun := false
        out := [.strobe .beforeFrame, .strobe .beforeCycle, .strobe .onError,
          .tickResult false (some (.unknownOpcode (s.entered cs).ir p))] }

/-- A fetch that does not lie in memory raises `MemoryBounds(Pc)` with `Pc` and `Ir` unchanged (spec/20_memory.md
R67), in a tick of the Loop and in one forced after done (spec/48_scheduler.md R259). The spec's decisions D3,
D5. That the error of a forced tick ends the Loop is the model's choice (log entry 4). -/
def Obligations.FetchBeyondMemoryTick : Prop :=
  ∀ (s : State) (cs : List Command), s.Ready cs → 4096 ≤ s.pc.toNat + 1 →
    step s = .next
      { s with
        commands := cs
        lastError := some (.memoryBounds s.pc.toNat)
        looping := false
        inRun := false
        out := [.strobe .beforeFrame, .strobe .beforeCycle, .strobe .onError,
          .tickResult false (some (.memoryBounds s.pc.toNat))] }

/-- A halted core returns its error and does nothing else: no strobe, no state of the core changes (spec/48_scheduler.md
R252), forced ticks included (R267). A tick that returns an error ends the Loop and the run (the model's own flags, log
entries 4 and 8; that a forced one ends the Loop is the model's choice). The spec's decision D25. -/
def Obligations.HaltedTickReturnsTheError : Prop :=
  ∀ (s : State) (e : Error) (cs : List Command), s.Issued cs → s.isBooted = true → s.lastError = some e →
    step s = .next { s with commands := cs, looping := false, inRun := false, out := [.tickResult false (some e)] }

/-- A tick before Boot returns `NotBooted`, which is not stored, and changes no state of the core (spec/48_scheduler.md
R251), forced ticks included (R267). That the Loop stops, an error being returned, is R268 in the model's flag `looping`,
for a forced tick the model's choice (log entry 4); that the model's flag `inRun` is left unchanged is the model's choice
(log entry 8). -/
def Obligations.NotBootedTickChangesNothing : Prop :=
  ∀ (s : State) (cs : List Command), s.Issued cs → s.isBooted = false →
    step s = .next { s with commands := cs, looping := false, out := [.tickResult false (some .notBooted)] }

/-- A paused tick of the Loop, which bypasses nothing, strobes `BeforeFrame` and nothing else (spec/48_scheduler.md
R254). -/
def Obligations.PausedTickIsIdle : Prop :=
  ∀ s : State, s.cfg.ok = true → s.commands = [] → s.looping = true → s.isBooted = true → s.lastError = none →
    s.isPaused = true →
    step s = .next { s with out := [.strobe .beforeFrame, .tickResult false none] }

/-- The press phase of a key wait: one poll; a key that is reported is latched into the register and the release phase
begins; no instruction is fetched, no counter moves, the timers stand still (spec/48_scheduler.md R256), in a tick of
the Loop and in a forced one (R267). The spec's decision D11. -/
def Obligations.KeyWaitPollsForAPress : Prop :=
  ∀ (s : State) (cs : List Command), s.Ticking cs → s.waitingForKey = true →
    ∃ t, step s = .next t ∧
      match s.keyAnyAnswer with
      | some key =>
        t = { s with
              v := t.v, heldKey := key, waitingForKey := false, waitingForRelease := true,
              commands := cs, env := t.env, draws := t.draws, out := t.out } ∧
          (∀ r, t.getV r = if r = s.keyTarget then key else s.getV r) ∧
          t.out = [.strobe .beforeFrame, .keyAny (some key), .strobe .afterFrame, .tickResult false none]
      | none =>
        t = { s with commands := cs, env := t.env, draws := t.draws, out := t.out } ∧
          t.out = [.strobe .beforeFrame, .keyAny none, .strobe .afterFrame, .tickResult false none]

/-- The release phase of a key wait: one poll of the held key; the wait ends when it is reported up, and no instruction
is fetched in that tick (spec/48_scheduler.md R256), which the Loop issued or LoopOnce or SingleFrame forced (R267). The
spec's decision D11. -/
def Obligations.KeyWaitPollsForTheRelease : Prop :=
  ∀ (s : State) (cs : List Command), s.Ticking cs → s.waitingForKey = false → s.waitingForRelease = true →
    ∃ t, step s = .next t ∧
      t = { s with
            waitingForRelease := s.keyPressedAnswer s.heldKey, commands := cs, env := t.env, draws := t.draws,
            out := t.out } ∧
      t.out = [.strobe .beforeFrame, .keyPressed s.heldKey (s.keyPressedAnswer s.heldKey), .strobe .afterFrame,
        .tickResult false none]

/-! ## The host's commands -/

/-- Power-on constructs the core again (spec/70_reset_and_hazards.md R351, spec/60_exceptions.md R314): everything zero or
false, no error, FONT below 80 and 0 elsewhere, `Pc` 0, the configured values of `Q` and the configuration kept. The
spec's decisions D18, D20; log entry 14. -/
def Obligations.PowerOnZeroesTheCore : Prop :=
  ∀ (s : State) (cs : List Command), s.cfg.ok = true → s.commands = .powerOn :: cs →
    ∃ t, step s = .next t ∧ (∀ r, t.getV r = 0) ∧ t.i = 0 ∧ t.pc = 0 ∧ t.sp = 0 ∧ (∀ w ∈ t.stack.toList, w = 0) ∧
      t.dt = 0 ∧ t.st = 0 ∧ (∀ a, a < 80 → t.readByte a = s.cfg.font.toList.getD a 0) ∧
      (∀ a, 80 ≤ a → t.readByte a = 0) ∧ t.fb = List.replicate s.cfg.fbLen 0 ∧ t.dirty = false ∧ t.ir = 0 ∧
      t.isBooted = false ∧ t.isPaused = false ∧ t.waitingForKey = false ∧ t.waitingForRelease = false ∧
      t.keyTarget = 0 ∧ t.heldKey = 0 ∧ t.lastError = none ∧ t.cycles = 0 ∧ t.frames = 0 ∧ t.q = s.q ∧ t.cfg = s.cfg

/-- LoadProgram (spec/70_reset_and_hazards.md R354). A program that is too long fails and changes no state of the core.
One that fits resets all program state, with FONT below 80, the program at 0x200 and 0 elsewhere; `isBooted`,
`isPaused`, `Q` and the configuration are unchanged. The spec's decisions D18, D19. -/
def Obligations.LoadProgramResetsTheCoreOrFails : Prop :=
  ∀ (s : State) (p : List Byte) (cs : List Command), s.cfg.ok = true → s.commands = .loadProgram p :: cs →
    (3584 < p.length →
      step s = .next { s with commands := cs, out := [.commandResult (some (.programTooLarge p.length))] }) ∧
    (p.length ≤ 3584 →
      ∃ t, step s = .next t ∧ (∀ r, t.getV r = 0) ∧ t.i = 0 ∧ t.pc = 0x200#16 ∧ t.sp = 0 ∧
        (∀ w ∈ t.stack.toList, w = 0) ∧ t.dt = 0 ∧ t.st = 0 ∧
        (∀ a, a < 80 → t.readByte a = s.cfg.font.toList.getD a 0) ∧
        (∀ k, k < p.length → t.readByte (0x200 + k) = p.getD k 0) ∧
        (∀ a, 80 ≤ a → (a < 0x200 ∨ 0x200 + p.length ≤ a) → t.readByte a = 0) ∧
        t.fb = List.replicate s.cfg.fbLen 0 ∧ t.dirty = false ∧ t.waitingForKey = false ∧
        t.waitingForRelease = false ∧ t.keyTarget = 0 ∧ t.heldKey = 0 ∧ t.lastError = none ∧ t.cycles = 0 ∧
        t.frames = 0 ∧ t.ir = 0 ∧ t.isBooted = s.isBooted ∧ t.isPaused = s.isPaused ∧ t.q = s.q ∧ t.cfg = s.cfg ∧
        t.commands = cs ∧ t.out = [.commandResult none])

/-- Boot (spec/70_reset_and_hazards.md R352): a second Boot asks no port and does nothing. Otherwise the ports are asked in
the order Display, Keyboard, Buzzer, `d`, `k`, `b` being the states after each question: the first that fails ends the
Boot with its name, and the core stays not booted; when none fails the core is booted, and paused unless `run`. Registers,
memory, the framebuffer, the stored error and the counters are never touched. The spec's decision D20; the record of
answers is the model's own (log entry 6). -/
def Obligations.BootTouchesOnlyItsFlags : Prop :=
  ∀ (s d k b : State) (run : Bool) (cs : List Command), s.cfg.ok = true → s.commands = .boot run :: cs →
    d = s.portBootAsked .display → k = d.portBootAsked .keyboard → b = k.portBootAsked .buzzer →
    (s.isBooted = true → step s = .next { s with commands := cs, out := [.commandResult none] }) ∧
    (s.isBooted = false →
      (s.portBootAnswer .display = false →
        step s = .next
          { s with
            commands := cs, env := d.env, draws := d.draws
            out := [.portBoot .display false, .commandResult (some (.portBootFailure .display))] }) ∧
      (s.portBootAnswer .display = true → d.portBootAnswer .keyboard = false →
        step s = .next
          { s with
            commands := cs, env := k.env, draws := k.draws
            out := [.portBoot .display true, .portBoot .keyboard false,
              .commandResult (some (.portBootFailure .keyboard))] }) ∧
      (s.portBootAnswer .display = true → d.portBootAnswer .keyboard = true → k.portBootAnswer .buzzer = false →
        step s = .next
          { s with
            commands := cs, env := b.env, draws := b.draws
            out := [.portBoot .display true, .portBoot .keyboard true, .portBoot .buzzer false,
              .commandResult (some (.portBootFailure .buzzer))] }) ∧
      (s.portBootAnswer .display = true → d.portBootAnswer .keyboard = true → k.portBootAnswer .buzzer = true →
        step s = .next
          { s with
            isBooted := true, isPaused := !run, commands := cs, env := b.env, draws := b.draws
            out := [.portBoot .display true, .portBoot .keyboard true, .portBoot .buzzer true, .commandResult none] }))

/-- Start and Stop write `isPaused` and nothing else (spec/48_scheduler.md R270); Loop writes no state of the core: it turns
on the model's flag `looping`, under which ticks are issued (R268; log entry 4). -/
def Obligations.StartAndStopWriteOnlyThePauseFlag : Prop :=
  ∀ (s : State) (cs : List Command), s.cfg.ok = true →
    (s.commands = .start :: cs → step s = .next { s with isPaused := false, commands := cs, out := [] }) ∧
    (s.commands = .stop :: cs → step s = .next { s with isPaused := true, commands := cs, out := [] }) ∧
    (s.commands = .loop :: cs → step s = .next { s with looping := true, commands := cs, out := [] })

/-- LoopOnce and SingleFrame run one instruction whatever the paused flag says, and leave that flag as it was
(spec/48_scheduler.md R267). A tick of theirs that reports done ends a Loop that is issuing ticks (R259); that one which
reports an error does so too is the model's choice (log entry 4). The spec's decision D30. -/
def Obligations.LoopOnceBypassesThePauseFlag : Prop :=
  ∀ (s : State) (i : Instr) (cs : List Command), s.cfg.ok = true →
    (s.commands = .loopOnce :: cs ∨ s.commands = .singleFrame :: cs) → s.isBooted = true → s.lastError = none →
    s.waitingForKey = false → s.waitingForRelease = false → s.AtInstr i →
    (step s =
      match exec i (s.entered cs) with
      | .next u => .next u.endCycle
      | .fault r => .fault r
      | .refused r => .refused r) ∧
    ∀ t, step s = .next t → t.isPaused = s.isPaused ∧
      ∃ done err, t.out.getLast? = some (.tickResult done err) ∧ t.looping = (s.looping && !(done || err.isSome))

/-- A rewrite of `Q` or of the configuration is refused in mid-run, as spec/10_state.md R42 asks of a model, and refused
when the configuration it makes is outside the constraints of spec/00_scope.md R7; between runs it writes the register
(and the framebuffer, when the screen size changes) and nothing else of the core. The registers are `Q`, `CPF`, the screen
size and the speed with its bounds (spec/60_exceptions.md R320). What counts as a run and the framebuffer of a resized
screen are the model's choice (log entries 8 and 13); that a command checks the speed against its bounds is log entry 9. -/
def Obligations.ReconfigurationOnlyBetweenRuns : Prop :=
  ∀ (s : State) (q : BitVec 5) (w h n hz lo hi : Nat) (cs : List Command), s.cfg.ok = true → s.cfg.speedOk = true →
    s.fb.length = s.cfg.fbLen →
    (s.inRun = true →
      (s.commands = .setQuirks q :: cs → step s = .refused .midRunReconfiguration) ∧
      (s.commands = .setCpf n :: cs → step s = .refused .midRunReconfiguration) ∧
      (s.commands = .setScreen w h :: cs → step s = .refused .midRunReconfiguration) ∧
      (s.commands = .setSpeed hz lo hi :: cs → step s = .refused .midRunReconfiguration)) ∧
    (s.inRun = false →
      (s.commands = .setQuirks q :: cs →
        ∃ t, step s = .next t ∧ t = { s with q := q, commands := cs, draws := t.draws, out := [] }) ∧
      (s.commands = .setCpf n :: cs →
        (n = 0 → step s = .refused .badConfiguration) ∧
        (1 ≤ n → ∃ t, step s = .next t ∧
          t = { s with cfg := { s.cfg with cpf := n }, commands := cs, draws := t.draws, out := [] })) ∧
      (s.commands = .setScreen w h :: cs →
        (¬(w % 8 = 0 ∧ 8 ≤ w ∧ w ≤ 256 ∧ 1 ≤ h ∧ h ≤ 256) → step s = .refused .badConfiguration) ∧
        (w % 8 = 0 ∧ 8 ≤ w ∧ w ≤ 256 ∧ 1 ≤ h ∧ h ≤ 256 → ∃ t, step s = .next t ∧
          t = { s with
                cfg := { s.cfg with screenW := w, screenH := h }, fb := t.fb, commands := cs, draws := t.draws,
                out := [] } ∧
          t.fb.length = w * h / 8)) ∧
      (s.commands = .setSpeed hz lo hi :: cs →
        (¬(lo ≤ hz ∧ hz ≤ hi) → step s = .refused .badConfiguration) ∧
        (lo ≤ hz ∧ hz ≤ hi → ∃ t, step s = .next t ∧
          t = { s with
                cfg := { s.cfg with speedHz := hz, speedMin := lo, speedMax := hi }, commands := cs, draws := t.draws,
                out := [] })))

/-- The debug snapshot (spec/60_exceptions.md R336): 57 bytes, every field at its offset and width, whatever the byte
order of the 2-byte fields; taking it changes no state of the core. R336 leaves that order open; that it is one order,
one of two, for all the 2-byte fields is the model's choice (log entry 11). -/
def Obligations.SnapshotKeepsItsLayout : Prop :=
  ∀ (s : State) (cs : List Command), s.cfg.ok = true → s.commands = .snapshot :: cs →
    ∃ (bs : List Byte) (field : Word → List Byte),
      step s = .next { s with commands := cs, out := [.snapshot bs] } ∧
      bs.length = 57 ∧
      ((∀ w, field w = [w.extractLsb' 8 8, w.extractLsb' 0 8]) ∨ (∀ w, field w = [w.extractLsb' 0 8, w.extractLsb' 8 8])) ∧
      bs.take 2 = field s.ir ∧ (bs.drop 2).take 2 = field s.pc ∧ (∀ r : Nibble, bs[4 + r.toNat]? = some (s.getV r)) ∧
      (bs.drop 20).take 2 = field s.i ∧ bs[22]? = some s.sp ∧
      (∀ (k : Nat) (hk : k < 16), (bs.drop (23 + 2 * k)).take 2 = field s.stack[k]) ∧
      bs[55]? = some s.dt ∧ bs[56]? = some s.st

/-- Where the model itself stops, in states that no run reaches (`ResetMeetsTheInvariant`, `StepKeepsTheInvariant`): `RET`
with `Sp` above 16, a draw on a framebuffer of another length than `FB_LEN`; and a configuration outside the constraints
of spec/00_scope.md R7 is refused, as spec/93_implementation_defined.md U23 asks. The model's choice, log entries 9
and 15. -/
def Obligations.StopsOutsideTheInvariant : Prop :=
  ∀ (s : State) (x y n : Nibble),
    (16 < s.sp.toNat → exec .ret s = .fault .stackIndex) ∧
    (s.fb.length ≠ s.cfg.fbLen → (n = 0 ∨ s.i.toNat + n.toNat ≤ 4096) → exec (.drw x y n) s = .fault .framebufferSize) ∧
    (s.cfg.ok = false → step s = .refused .badConfiguration)

/-! ## Control transfer (spec/40_flow.md) -/

/-- `RET`: on an empty stack the error, and nothing else is written; otherwise, with `Sp` from 1 to 16, `Pc` is the popped
slot, which keeps its value (R121; `Sp` above 16 is in StopsOutsideTheInvariant). Which slot is popped and that it keeps its
value is the spec's own reading (spec/10_state.md R27, D8); that the error is precise is the spec's decision D7, and that it
is a next state with `OnError` put out is log entry 3. -/
def Obligations.RetPopsOrRaises : Prop :=
  ∀ s : State,
    (s.sp = 0 → exec .ret s = .next { s with lastError := some .stackUnderflow, out := s.out ++ [.strobe .onError] }) ∧
    ∀ (k : Nat) (hk : k < 16), s.sp.toNat = k + 1 →
      exec .ret s = .next { s with sp := BitVec.ofNat 8 k, pc := s.stack[k] }

/-- `CALL`: at depth 16 the error, and nothing else is written; otherwise `Pc` is pushed into the slot `Sp` indexes, `Sp`
grows by 1 and the target is stored (R124). Which slot is written is the spec's own reading (spec/10_state.md R27, D8);
that the error is precise is the spec's decision D7, and that it is a next state with `OnError` put out is log entry 3. -/
def Obligations.CallPushesOrRaises : Prop :=
  ∀ (s : State) (nnn : Addr),
    (15 < s.sp.toNat →
      exec (.call nnn) s = .next { s with lastError := some .stackOverflow, out := s.out ++ [.strobe .onError] }) ∧
    ∀ hs : s.sp.toNat < 16, exec (.call nnn) s = .next
      { s with stack := s.stack.set s.sp.toNat s.pc hs, sp := s.sp + 1, pc := BitVec.ofNat 16 nnn.toNat }

/-- `JP` stores its target unchecked (R123). `Bxnn` adds its address to `V[x]`, x being the top nibble of the address,
when JUMP_VX is on, else to `V[0]`; the sum never wraps (R125). Neither writes anything else. -/
def Obligations.JumpsStoreTheirTarget : Prop :=
  ∀ (s : State) (nnn : Addr),
    exec (.jp nnn) s = .next { s with pc := BitVec.ofNat 16 nnn.toNat } ∧
    ∃ t, exec (.jpV0 nnn) s = .next t ∧ t = { s with pc := t.pc } ∧
      t.pc.toNat =
        (if s.q.getLsbD 4 = true then s.getV (BitVec.ofNat 4 (nnn.toNat / 256)) else s.getV 0#4).toNat + nnn.toNat

/-- `SYS` changes nothing beyond the fetch when no machine routine is installed, and is refused when one is (R122).
The refusal is what the rule asks of a model (D22; log entry 10). -/
def Obligations.SysIsANoOpWithoutTheHook : Prop :=
  ∀ (s : State) (nnn : Addr),
    (s.cfg.mroutine = false → exec (.sys nnn) s = .next s) ∧
    (s.cfg.mroutine = true → exec (.sys nnn) s = .refused (.machineRoutineInstalled nnn))

/-! ## Skips (spec/41_skip.md, spec/45_keys_timers.md) -/

/-- The four skips on registers add 2 to `Pc` when their condition holds and change nothing otherwise (R140 to R144). -/
def Obligations.SkipsAddTwoWhenTheirConditionHolds : Prop :=
  ∀ (s : State) (x y : Nibble) (kk : Byte),
    exec (.seImm x kk) s = .next { s with pc := if s.getV x = kk then s.pc + 2 else s.pc } ∧
    exec (.sneImm x kk) s = .next { s with pc := if s.getV x = kk then s.pc else s.pc + 2 } ∧
    exec (.seReg x y) s = .next { s with pc := if s.getV x = s.getV y then s.pc + 2 else s.pc } ∧
    exec (.sneReg x y) s = .next { s with pc := if s.getV x = s.getV y then s.pc else s.pc + 2 }

/-- The two keyboard skips ask the Keyboard port once, with the whole register value, and skip on its answer, whatever
that is (R230 to R232). That all 8 bits of the value are passed is the spec's decision D12; the record of answers is the
model's own choice (log entry 6). -/
def Obligations.KeySkipsFollowThePortsAnswer : Prop :=
  ∀ (s : State) (x : Nibble),
    (∃ t, exec (.skp x) s = .next t ∧
      t = { s with pc := t.pc, env := t.env, draws := t.draws, out := t.out } ∧
      t.out = s.out ++ [.keyPressed (s.getV x) (s.keyPressedAnswer (s.getV x))] ∧
      t.pc = if s.keyPressedAnswer (s.getV x) = true then s.pc + 2 else s.pc) ∧
    (∃ t, exec (.sknp x) s = .next t ∧
      t = { s with pc := t.pc, env := t.env, draws := t.draws, out := t.out } ∧
      t.out = s.out ++ [.keyPressed (s.getV x) (s.keyPressedAnswer (s.getV x))] ∧
      t.pc = if s.keyPressedAnswer (s.getV x) = true then s.pc else s.pc + 2)

/-! ## Registers (spec/42_alu.md) -/

/-- `6xkk`, `8xy0` and `Fx07` write `V[x]` and nothing else, VF included unless x is 15 (R151, R153,
spec/45_keys_timers.md R234). -/
def Obligations.LoadsWriteOnlyTheirRegister : Prop :=
  ∀ (s : State) (x y : Nibble) (kk : Byte),
    (∃ t, exec (.ldImm x kk) s = .next t ∧ t = { s with v := t.v } ∧ ∀ r, t.getV r = if r = x then kk else s.getV r) ∧
    (∃ t, exec (.ldReg x y) s = .next t ∧ t = { s with v := t.v } ∧
      ∀ r, t.getV r = if r = x then s.getV y else s.getV r) ∧
    (∃ t, exec (.ldVxDt x) s = .next t ∧ t = { s with v := t.v } ∧ ∀ r, t.getV r = if r = x then s.dt else s.getV r)

/-- `7xkk` adds modulo 256 and writes no flag (R152). -/
def Obligations.AddImmediateWrapsWithoutFlag : Prop :=
  ∀ (s : State) (x : Nibble) (kk : Byte), ∃ t, exec (.addImm x kk) s = .next t ∧ t = { s with v := t.v } ∧
    (t.getV x).toNat = ((s.getV x).toNat + kk.toNat) % 256 ∧ ∀ r, r ≠ x → t.getV r = s.getV r

/-- `8xy1`, `8xy2`, `8xy3`: with VF_RESET on, VF is cleared before the operands are read; with it off, VF is not written
(R154 to R156). The cases x = 15 and y = 15 rest on the spec's reading rule R13 (D2; log entry 16). -/
def Obligations.LogicClearsVfFirst : Prop :=
  ∀ (s : State) (x y : Nibble) (z : Nibble → Byte),
    (∀ r, z r = if s.q.getLsbD 0 = true ∧ r = 15#4 then 0 else s.getV r) →
    (∃ t, exec (.or x y) s = .next t ∧ t = { s with v := t.v } ∧ ∀ r, t.getV r = if r = x then z x ||| z y else z r) ∧
    (∃ t, exec (.and x y) s = .next t ∧ t = { s with v := t.v } ∧ ∀ r, t.getV r = if r = x then z x &&& z y else z r) ∧
    (∃ t, exec (.xor x y) s = .next t ∧ t = { s with v := t.v } ∧ ∀ r, t.getV r = if r = x then z x ^^^ z y else z r)

/-- `8xy4` writes the sum modulo 256, then the carry to VF, so that with x = 15 the carry remains (R157). -/
def Obligations.AddWritesTheCarryLast : Prop :=
  ∀ (s : State) (x y : Nibble), ∃ t, exec (.addReg x y) s = .next t ∧ t = { s with v := t.v } ∧
    t.getV 15#4 = (if 255 < (s.getV x).toNat + (s.getV y).toNat then 1 else 0) ∧
    (x ≠ 15#4 → (t.getV x).toNat = ((s.getV x).toNat + (s.getV y).toNat) % 256) ∧
    ∀ r, r ≠ x → r ≠ 15#4 → t.getV r = s.getV r

/-- `8xy5` and `8xy7` write the difference modulo 256, then 1 to VF exactly when no borrow occurred (R158, R160). -/
def Obligations.SubtractionsWriteNotBorrowLast : Prop :=
  ∀ (s : State) (x y : Nibble),
    (∃ t, exec (.sub x y) s = .next t ∧ t = { s with v := t.v } ∧
      t.getV 15#4 = (if (s.getV y).toNat ≤ (s.getV x).toNat then 1 else 0) ∧
      (x ≠ 15#4 → (t.getV x).toNat = ((s.getV x).toNat + 256 - (s.getV y).toNat) % 256) ∧
      ∀ r, r ≠ x → r ≠ 15#4 → t.getV r = s.getV r) ∧
    (∃ t, exec (.subn x y) s = .next t ∧ t = { s with v := t.v } ∧
      t.getV 15#4 = (if (s.getV x).toNat ≤ (s.getV y).toNat then 1 else 0) ∧
      (x ≠ 15#4 → (t.getV x).toNat = ((s.getV y).toNat + 256 - (s.getV x).toNat) % 256) ∧
      ∀ r, r ≠ x → r ≠ 15#4 → t.getV r = s.getV r)

/-- `8xy6` shifts `V[y]` when SHIFT_VY is on, else `V[x]`, right by one; VF is the bit shifted out, written before the
result, so that with x = 15 it ends as 0 (R159). The case x = 15 rests on the spec's reading rule R13 (D2; log entry
16). -/
def Obligations.ShiftRightHalvesItsOperand : Prop :=
  ∀ (s : State) (x y : Nibble) (a : Byte), a = (if s.q.getLsbD 1 = true then s.getV y else s.getV x) →
    ∃ t, exec (.shr x y) s = .next t ∧ t = { s with v := t.v } ∧
      (x ≠ 15#4 → (t.getV x).toNat = a.toNat / 2 ∧ (t.getV 15#4).toNat = a.toNat % 2) ∧
      (x = 15#4 → t.getV 15#4 = 0) ∧
      ∀ r, r ≠ x → r ≠ 15#4 → t.getV r = s.getV r

/-- `8xyE` shifts `V[y]` when SHIFT_VY is on, else `V[x]`, left by one; VF is the bit shifted out, written before the
result, so that with x = 15 it ends as 2 or 0 (R161). The case x = 15 rests on the spec's reading rule R13 (D2; log
entry 16). -/
def Obligations.ShiftLeftDoublesItsOperand : Prop :=
  ∀ (s : State) (x y : Nibble) (a : Byte), a = (if s.q.getLsbD 1 = true then s.getV y else s.getV x) →
    ∃ t, exec (.shl x y) s = .next t ∧ t = { s with v := t.v } ∧
      (x ≠ 15#4 → (t.getV x).toNat = 2 * a.toNat % 256 ∧ (t.getV 15#4).toNat = a.toNat / 128) ∧
      (x = 15#4 → (t.getV 15#4).toNat = 2 * (a.toNat / 128)) ∧
      ∀ r, r ≠ x → r ≠ 15#4 → t.getV r = s.getV r

/-- `Cxkk` asks the random-byte port once. A byte is written under the mask, whatever it is; a failure raises
`RngFailure`, the port's own error value carried in it unchanged, with every register unchanged (R162,
spec/60_exceptions.md R305, spec/90_conflicts.md C11). That the source is a port is the spec's choice (D28); that a number
stands for the error value is log entry 26. -/
def Obligations.RandomByteIsMaskedOrRaises : Prop :=
  ∀ (s : State) (x : Nibble) (kk : Byte), ∃ t, exec (.rnd x kk) s = .next t ∧
    match s.randAnswer with
    | .byte b =>
      t = { s with v := t.v, env := t.env, draws := t.draws, out := t.out } ∧ t.out = s.out ++ [.rand (.byte b)] ∧
        ∀ r, t.getV r = if r = x then b &&& kk else s.getV r
    | .failed f =>
      t = { s with lastError := some (.rngFailure f), env := t.env, draws := t.draws, out := t.out } ∧
        t.out = s.out ++ [.rand (.failed f), .strobe .onError]

/-! ## Index register and memory (spec/43_index_memory.md) -/

/-- `Annn`, `Fx1E` and `Fx29` write `I` and nothing else: the sum is modulo 2^16 with no flag, the font address is the
whole byte times 5 (R181 to R183). The spec's decision D31. -/
def Obligations.IndexLoadsWriteOnlyI : Prop :=
  ∀ (s : State) (x : Nibble) (nnn : Addr),
    (∃ t, exec (.ldI nnn) s = .next t ∧ t = { s with i := t.i } ∧ t.i.toNat = nnn.toNat) ∧
    (∃ t, exec (.addI x) s = .next t ∧ t = { s with i := t.i } ∧
      t.i.toNat = (s.i.toNat + (s.getV x).toNat) % 65536) ∧
    (∃ t, exec (.ldF x) s = .next t ∧ t = { s with i := t.i } ∧ t.i.toNat = (s.getV x).toNat * 5)

/-- `Fx33` stores the hundreds, tens and ones of `V[x]` at `I`, `I + 1`, `I + 2`; every other byte of memory and `I` are
unchanged (R184; the digit order is marked general knowledge there). Log entry 12; the spec's decision D17. -/
def Obligations.StoreDecimalWritesThreeDigits : Prop :=
  ∀ (s : State) (x : Nibble), Memory.wf s.cfg.font s.mem = true → s.i.toNat + 3 ≤ 4096 →
    ∃ t, exec (.ldB x) s = .next t ∧ t = { s with mem := t.mem } ∧
      (t.readByte s.i.toNat).toNat = (s.getV x).toNat / 100 ∧
      (t.readByte (s.i.toNat + 1)).toNat = (s.getV x).toNat / 10 % 10 ∧
      (t.readByte (s.i.toNat + 2)).toNat = (s.getV x).toNat % 10 ∧
      ∀ a, (a < s.i.toNat ∨ s.i.toNat + 3 ≤ a) → t.readByte a = s.readByte a

/-- `Fx55` stores `V[0]` to `V[x]` at `I` to `I + x` and advances `I` by `x + 1` when MEM_ADV_I is on; every other byte
of memory is unchanged. When the bytes do not lie in memory it raises `MemoryBounds(I)` and writes nothing (R185):
an error of the spec's own making (spec/20_memory.md R65, D3; log entry 17). -/
def Obligations.StoreRegistersWritesThePrefix : Prop :=
  ∀ (s : State) (x : Nibble), Memory.wf s.cfg.font s.mem = true →
    (4096 < s.i.toNat + x.toNat + 1 → exec (.ldMemVx x) s = .next
      { s with lastError := some (.memoryBounds s.i.toNat), out := s.out ++ [.strobe .onError] }) ∧
    (s.i.toNat + x.toNat + 1 ≤ 4096 →
      ∃ t, exec (.ldMemVx x) s = .next t ∧ t = { s with mem := t.mem, i := t.i } ∧
        t.i = (if s.q.getLsbD 2 = true then s.i + BitVec.ofNat 16 (x.toNat + 1) else s.i) ∧
        (∀ r : Nibble, r.toNat ≤ x.toNat → t.readByte (s.i.toNat + r.toNat) = s.getV r) ∧
        ∀ a, (a < s.i.toNat ∨ s.i.toNat + x.toNat + 1 ≤ a) → t.readByte a = s.readByte a)

/-- `Fx65` loads `V[0]` to `V[x]` from `I` to `I + x` and advances `I` by `x + 1` when MEM_ADV_I is on; the registers
above `V[x]` and memory are unchanged. When the bytes do not lie in memory it raises `MemoryBounds(I)` and writes nothing
(R186): an error of the spec's own making (spec/20_memory.md R65, D3; log entry 17). -/
def Obligations.LoadRegistersReadsThePrefix : Prop :=
  ∀ (s : State) (x : Nibble),
    (4096 < s.i.toNat + x.toNat + 1 → exec (.ldVxMem x) s = .next
      { s with lastError := some (.memoryBounds s.i.toNat), out := s.out ++ [.strobe .onError] }) ∧
    (s.i.toNat + x.toNat + 1 ≤ 4096 →
      ∃ t, exec (.ldVxMem x) s = .next t ∧ t = { s with v := t.v, i := t.i } ∧
        t.i = (if s.q.getLsbD 2 = true then s.i + BitVec.ofNat 16 (x.toNat + 1) else s.i) ∧
        ∀ r : Nibble, t.getV r = if r.toNat ≤ x.toNat then s.readByte (s.i.toNat + r.toNat) else s.getV r)

/-- An access through `I` any byte of which would lie at 4096 or above raises `MemoryBounds(I)` before any byte is moved
(R180, spec/20_memory.md R63 to R65): `Fx33`, and `Dxyn` but for a sprite of no rows. `Fx55` and `Fx65` have it in
their own statements. The spec's decision D3. -/
def Obligations.DigitAndSpriteAccessBeyondMemoryRaises : Prop :=
  ∀ (s : State) (x y n : Nibble),
    (4096 < s.i.toNat + 3 → exec (.ldB x) s = .next
      { s with lastError := some (.memoryBounds s.i.toNat), out := s.out ++ [.strobe .onError] }) ∧
    (n ≠ 0 → 4096 < s.i.toNat + n.toNat → exec (.drw x y n) s = .next
      { s with lastError := some (.memoryBounds s.i.toNat), out := s.out ++ [.strobe .onError] })

/-- Two bytes stored at an address are what the next fetch there reads, the byte at the lower address as the high byte
(spec/20_memory.md R66, R75). -/
def Obligations.StoredBytesAreFetched : Prop :=
  ∀ (s t : State) (hi lo : Byte), Memory.wf s.cfg.font s.mem = true → s.memWrite s.pc.toNat [hi, lo] = .ok t →
    t.fetch = .ok (hi ++ lo, { t with ir := hi ++ lo, pc := s.pc + 2 })

/-! ## Screen (spec/44_draw.md) -/

/-- `00E0` clears every framebuffer byte and sets `dirty`; VF is not written (R201). That it sets `dirty` is the
spec's decision D13. -/
def Obligations.ClearScreenClearsEveryByte : Prop :=
  ∀ s : State, exec .cls s = .next { s with fb := List.replicate (s.cfg.screenW * s.cfg.screenH / 8) 0, dirty := true }

/-- `Dxyn` on pixels (R202 to R206): the pixel at each place is toggled once for every sprite row that covers it; VF is 1
exactly when some row's pixel lands on a lit one, else 0; `dirty` is set unless the sprite has no row; nothing else
changes. The spec's decisions D3, D13, D15. -/
def Obligations.DrawTogglesTheSpritesPixels : Prop :=
  ∀ (s : State) (x y n : Nibble), s.cfg.ok = true → s.fb.length = s.cfg.fbLen →
    (n = 0 ∨ s.i.toNat + n.toNat ≤ 4096) →
    ∃ (t : State) (bs : List Byte), bs.length = n.toNat ∧
      (∀ k, k < n.toNat → bs.getD k 0 = s.readByte (s.i.toNat + k)) ∧
      exec (.drw x y n) s = .next t ∧ t = { s with v := t.v, fb := t.fb, dirty := t.dirty } ∧
      t.fb.length = s.fb.length ∧ t.dirty = (s.dirty || n != 0) ∧
      (∀ row col, row < s.cfg.screenH → col < s.cfg.screenW →
        pixelAt s.cfg t.fb row col =
          (pixelAt s.cfg s.fb row col ^^ spriteParity s.cfg (s.getV x) (s.getV y) bs row col n.toNat)) ∧
      (spriteHits s.cfg (s.getV x) (s.getV y) bs s.fb → t.getV 15#4 = 1) ∧
      (¬spriteHits s.cfg (s.getV x) (s.getV y) bs s.fb → t.getV 15#4 = 0) ∧
      ∀ r, r ≠ 15#4 → t.getV r = s.getV r

/-- One blit toggles exactly the pixels its sprite byte covers, wrapping within the row, and leaves every other pixel of
the framebuffer (R205); it reports a collision exactly when a pixel of the sprite lands on a lit one (R206). Which
bit of a framebuffer byte is which pixel is what the spec derives in spec/10_state.md R35 (log entry 20). -/
def Obligations.BlitTogglesExactlyItsPixels : Prop :=
  ∀ (c : Configuration) (xc yc b : Byte) (fb : List Byte), c.ok = true → fb.length = c.fbLen →
    (∀ row col, row < c.screenH → col < c.screenW →
      pixelAt c (blit c xc yc b fb).1 row col = (pixelAt c fb row col ^^ spriteCovers c xc yc b row col)) ∧
    ((blit c xc yc b fb).2 = true ↔
      ∃ row col, row < c.screenH ∧ col < c.screenW ∧
        spriteCovers c xc yc b row col = true ∧ pixelAt c fb row col = true)

/-- Drawing the same sprite twice at the same place restores the framebuffer, whatever it held. Against a blank screen
the first draw reports no collision and the second one does, for a sprite with a 1 bit no two of whose rows share a screen
row (R207). They share none when the sprite has at most SCREEN_H rows and the 8-bit row coordinate of R203 (D15) cannot
bring two together: a height that divides 256, or rows that do not pass row 255. -/
def Obligations.DrawingTwiceRestoresTheScreen : Prop :=
  ∀ (c : Configuration) (cx cy : Byte) (bs fb : List Byte), c.ok = true → fb.length = c.fbLen →
    (drawRows c cx cy 0 bs (drawRows c cx cy 0 bs fb).1).1 = fb ∧
    (bs.length ≤ c.screenH → (256 % c.screenH = 0 ∨ cy.toNat + bs.length ≤ 256) → rowsApart c cy bs.length) ∧
    ((∃ b ∈ bs, b ≠ 0) → rowsApart c cy bs.length → fb = List.replicate c.fbLen 0 →
      (drawRows c cx cy 0 bs fb).2 = false ∧ (drawRows c cx cy 0 bs (drawRows c cx cy 0 bs fb).1).2 = true)

/-! ## Keyboard and timers (spec/45_keys_timers.md) -/

/-- `Fx0A` begins a key wait and completes at once: `V[x]` is not written and the port is not asked (R233). -/
def Obligations.KeyWaitBeginsWithoutBlocking : Prop :=
  ∀ (s : State) (x : Nibble), exec (.ldVxK x) s = .next { s with waitingForKey := true, keyTarget := x }

/-- `Fx15` and `Fx18` write their timer and nothing else (R235, R236). -/
def Obligations.TimerWritesWriteOnlyTheTimer : Prop :=
  ∀ (s : State) (x : Nibble),
    exec (.ldDtVx x) s = .next { s with dt := s.getV x } ∧ exec (.ldStVx x) s = .next { s with st := s.getV x }

/-! ## The whole instruction set: what no instruction changes -/

/-- No instruction but `Fx33` and `Fx55` changes a byte of memory (spec/20_memory.md R62). -/
def Obligations.OnlyStoresChangeMemory : Prop :=
  ∀ (i : Instr) (s t : State), exec i s = .next t → i.storesMemory = false →
    t.mem = s.mem ∧ ∀ a, t.readByte a = s.readByte a

/-- A general register is changed only by an instruction that names it as its destination, by a load of several
registers, and VF also by the instructions the spec lists as flag writers (spec/10_state.md R20, R21). -/
def Obligations.RegistersChangeOnlyAsDestinationOrFlag : Prop :=
  ∀ (i : Instr) (s t : State) (r : Nibble), exec i s = .next t → i.writesV (s.q.getLsbD 0) r = false →
    t.getV r = s.getV r

/-- No instruction but jumps, call, return and skips writes `Pc` besides the fetch; only `CALL` and `RET` change `Sp` and
the stack; only the listed instructions change `I`; only `00E0` and `Dxyn` change the framebuffer and `dirty`
(spec/10_state.md R22, R24, R26, R27, spec/44_draw.md R200). -/
def Obligations.PcStackIndexAndScreenHaveFewWriters : Prop :=
  ∀ (i : Instr) (s t : State), exec i s = .next t →
    (i.writesPc = false → t.pc = s.pc) ∧
    (i.usesStack = false → t.sp = s.sp ∧ t.stack = s.stack) ∧
    (i.writesI (s.q.getLsbD 2) = false → t.i = s.i) ∧
    (i.writesScreen = false → t.fb = s.fb ∧ t.dirty = s.dirty)

/-- No instruction changes `Q`, the configuration, the run flags, the release phase of the key wait or the counters;
only `Fx15` writes `Dt`, only `Fx18` writes `St`, only `Fx0A` begins a key wait, and only the instructions that ask a port
take an answer (spec/10_state.md R40, spec/60_exceptions.md R318, spec/45_keys_timers.md). Of the model's own fields no
instruction changes `looping` (log entry 4), `commands` (log entry 5) and `inRun` (log entry 8), and only one that asks a
port changes `env` and `draws` (log entry 6); the statement says nothing of `out` (log entry 7), which a raised error moves
too. -/
def Obligations.NoInstructionChangesControlState : Prop :=
  ∀ (i : Instr) (s t : State), exec i s = .next t →
    (t.q = s.q ∧ t.cfg = s.cfg ∧ t.isBooted = s.isBooted ∧ t.isPaused = s.isPaused ∧ t.ir = s.ir ∧
      t.waitingForRelease = s.waitingForRelease ∧ t.heldKey = s.heldKey ∧ t.cycles = s.cycles ∧ t.frames = s.frames ∧
      t.looping = s.looping ∧ t.inRun = s.inRun ∧ t.commands = s.commands) ∧
    ((∀ x, i ≠ .ldDtVx x) → t.dt = s.dt) ∧ ((∀ x, i ≠ .ldStVx x) → t.st = s.st) ∧
    ((∀ x, i ≠ .ldVxK x) → t.waitingForKey = s.waitingForKey ∧ t.keyTarget = s.keyTarget) ∧
    (i.asksPort = false → t.env = s.env ∧ t.draws = s.draws)

/-- Errors are precise: an instruction that raises one has written nothing but `lastError` (spec/60_exceptions.md R309);
the model's record of port answers and outputs moves with the question asked and the `OnError` strobe. The spec's
decision D7. -/
def Obligations.ErrorsArePrecise : Prop :=
  ∀ (i : Instr) (s t : State) (e : Error), exec i s = .next t → s.lastError = none → t.lastError = some e →
    t = { s with lastError := some e, env := t.env, draws := t.draws, out := t.out } ∧
      t.out.getLast? = some (.strobe .onError)
end

