-- ==== Sys2Proof/Laws/Decode.lean ====
section
/-! SUPPORT. The fields of a word and the packing of fields, as arithmetic on naturals: each further fact about them is
linear arithmetic. -/

namespace Sys2Proof

/-! ### Fields (spec/30_encoding.md R91) -/

theorem toNat_fieldH (w : Word) : (fieldH w).toNat = w.toNat / 4096 := by
  have := w.isLt
  simp [fieldH, BitVec.extractLsb'_toNat, Nat.shiftRight_eq_div_pow]
  omega

theorem toNat_fieldX (w : Word) : (fieldX w).toNat = w.toNat / 256 % 16 := by
  simp [fieldX, BitVec.extractLsb'_toNat, Nat.shiftRight_eq_div_pow]

theorem toNat_fieldY (w : Word) : (fieldY w).toNat = w.toNat / 16 % 16 := by
  simp [fieldY, BitVec.extractLsb'_toNat, Nat.shiftRight_eq_div_pow]

theorem toNat_fieldN (w : Word) : (fieldN w).toNat = w.toNat % 16 := by
  simp [fieldN, BitVec.extractLsb'_toNat]

theorem toNat_fieldKk (w : Word) : (fieldKk w).toNat = w.toNat % 256 := by
  simp [fieldKk, BitVec.extractLsb'_toNat]

theorem toNat_fieldNnn (w : Word) : (fieldNnn w).toNat = w.toNat % 4096 := by
  simp [fieldNnn, BitVec.extractLsb'_toNat]

/-! ### Packing (spec/30_encoding.md R92) -/

theorem toNat_append_add {n m : Nat} (a : BitVec n) (b : BitVec m) : (a ++ b).toNat = a.toNat * 2 ^ m + b.toNat := by
  rw [BitVec.toNat_append, ← Nat.shiftLeft_add_eq_or_of_lt b.isLt, Nat.shiftLeft_eq]

theorem toNat_packNnn (h : Nibble) (nnn : Addr) : (packNnn h nnn).toNat = h.toNat * 4096 + nnn.toNat := by
  unfold packNnn
  exact toNat_append_add h nnn

theorem toNat_packXkk (h x : Nibble) (kk : Byte) :
    (packXkk h x kk).toNat = h.toNat * 4096 + x.toNat * 256 + kk.toNat := by
  refine (toNat_append_add (h ++ x) kk).trans ?_
  rw [toNat_append_add h x]
  omega

theorem toNat_packXyn (h x y n : Nibble) :
    (packXyn h x y n).toNat = h.toNat * 4096 + x.toNat * 256 + y.toNat * 16 + n.toNat := by
  refine (toNat_append_add (h ++ x ++ y) n).trans ?_
  rw [toNat_append_add (h ++ x) y, toNat_append_add h x]
  omega

/-! ### The bits of a packed word -/

theorem getLsbD_packNnn (h : Nibble) (nnn : Addr) (i : Nat) :
    (packNnn h nnn).getLsbD i = if i < 12 then nnn.getLsbD i else h.getLsbD (i - 12) :=
  BitVec.getLsbD_append

theorem getLsbD_packXkk (h x : Nibble) (kk : Byte) (i : Nat) :
    (packXkk h x kk).getLsbD i =
      if i < 8 then kk.getLsbD i else if i - 8 < 4 then x.getLsbD (i - 8) else h.getLsbD (i - 8 - 4) := by
  refine (BitVec.getLsbD_append (x := h ++ x)).trans ?_
  rw [BitVec.getLsbD_append]

theorem getLsbD_packXyn (h x y n : Nibble) (i : Nat) :
    (packXyn h x y n).getLsbD i =
      if i < 4 then n.getLsbD i
      else if i - 4 < 4 then y.getLsbD (i - 4)
      else if i - 4 - 4 < 4 then x.getLsbD (i - 4 - 4) else h.getLsbD (i - 4 - 4 - 4) := by
  refine (BitVec.getLsbD_append (x := h ++ x ++ y)).trans ?_
  rw [BitVec.getLsbD_append, BitVec.getLsbD_append]

/-! ### The fields of a packed word -/

@[simp] theorem fieldH_packNnn (h : Nibble) (nnn : Addr) : fieldH (packNnn h nnn) = h := by
  apply BitVec.eq_of_toNat_eq
  have := nnn.isLt
  rw [toNat_fieldH, toNat_packNnn]
  omega

@[simp] theorem fieldNnn_packNnn (h : Nibble) (nnn : Addr) : fieldNnn (packNnn h nnn) = nnn := by
  apply BitVec.eq_of_toNat_eq
  have := nnn.isLt
  rw [toNat_fieldNnn, toNat_packNnn]
  omega

@[simp] theorem fieldH_packXkk (h x : Nibble) (kk : Byte) : fieldH (packXkk h x kk) = h := by
  apply BitVec.eq_of_toNat_eq
  have := x.isLt
  have := kk.isLt
  rw [toNat_fieldH, toNat_packXkk]
  omega

@[simp] theorem fieldX_packXkk (h x : Nibble) (kk : Byte) : fieldX (packXkk h x kk) = x := by
  apply BitVec.eq_of_toNat_eq
  have := x.isLt
  have := kk.isLt
  rw [toNat_fieldX, toNat_packXkk]
  omega

@[simp] theorem fieldKk_packXkk (h x : Nibble) (kk : Byte) : fieldKk (packXkk h x kk) = kk := by
  apply BitVec.eq_of_toNat_eq
  have := kk.isLt
  rw [toNat_fieldKk, toNat_packXkk]
  omega

@[simp] theorem fieldH_packXyn (h x y n : Nibble) : fieldH (packXyn h x y n) = h := by
  apply BitVec.eq_of_toNat_eq
  have := x.isLt
  have := y.isLt
  have := n.isLt
  rw [toNat_fieldH, toNat_packXyn]
  omega

@[simp] theorem fieldX_packXyn (h x y n : Nibble) : fieldX (packXyn h x y n) = x := by
  apply BitVec.eq_of_toNat_eq
  have := x.isLt
  have := y.isLt
  have := n.isLt
  rw [toNat_fieldX, toNat_packXyn]
  omega

@[simp] theorem fieldY_packXyn (h x y n : Nibble) : fieldY (packXyn h x y n) = y := by
  apply BitVec.eq_of_toNat_eq
  have := y.isLt
  have := n.isLt
  rw [toNat_fieldY, toNat_packXyn]
  omega

@[simp] theorem fieldN_packXyn (h x y n : Nibble) : fieldN (packXyn h x y n) = n := by
  apply BitVec.eq_of_toNat_eq
  have := n.isLt
  rw [toNat_fieldN, toNat_packXyn]
  omega

/-! ### A word is the packing of its fields -/

theorem packNnn_fields (w : Word) : packNnn (fieldH w) (fieldNnn w) = w := by
  apply BitVec.eq_of_toNat_eq
  rw [toNat_packNnn, toNat_fieldH, toNat_fieldNnn]
  omega

theorem packXkk_fields (w : Word) : packXkk (fieldH w) (fieldX w) (fieldKk w) = w := by
  apply BitVec.eq_of_toNat_eq
  rw [toNat_packXkk, toNat_fieldH, toNat_fieldX, toNat_fieldKk]
  omega

theorem packXyn_fields (w : Word) : packXyn (fieldH w) (fieldX w) (fieldY w) (fieldN w) = w := by
  apply BitVec.eq_of_toNat_eq
  rw [toNat_packXyn, toNat_fieldH, toNat_fieldX, toNat_fieldY, toNat_fieldN]
  omega

/-- The two bytes of a word make the word again. -/
@[simp] theorem wordOfBytes_highByte_lowByte (w : Word) : wordOfBytes (highByte w) (lowByte w) = w := by
  apply BitVec.eq_of_toNat_eq
  have hw := w.isLt
  have h2 : (highByte w).toNat = w.toNat / 256 % 256 := by
    simp [highByte, BitVec.extractLsb'_toNat, Nat.shiftRight_eq_div_pow]
  have h3 : (lowByte w).toNat = w.toNat % 256 := by
    simp [lowByte, BitVec.extractLsb'_toNat]
  refine (toNat_append_add (highByte w) (lowByte w)).trans ?_
  omega

end Sys2Proof
end

