-- ==== Sys2Proof/Laws/Memory.lean ====
section
/-! SUPPORT. The laws of memory: what a read sees after a write, and that every operation keeps the canonical form. -/

namespace Sys2Proof.Machine

variable {font : Vector Byte Config.fontLen}

/-! ### What a read sees -/

theorem Memory.read_below {lo : Nat} {m : Memory} (h : Memory.wfFrom font lo m = true) {a : Nat} (ha : a < lo) :
    Memory.read font m a = Memory.unlisted font a := by
  induction m generalizing lo with
  | nil => rfl
  | cons c rest ih =>
    obtain ⟨k, b⟩ := c
    simp only [Memory.wfFrom, Bool.and_eq_true, decide_eq_true_eq] at h
    have hk : a ≠ k := by omega
    simp only [Memory.read, hk, if_false]
    exact ih h.2 (by omega)

/-- A read after a write, at every address; the canonical form is what makes a removed cell read as unlisted. -/
theorem Memory.read_write {lo : Nat} {m : Memory} (h : Memory.wfFrom font lo m = true) (a a' : Nat) (b : Byte) :
    Memory.read font (Memory.write font m a b) a' = if a' = a then b else Memory.read font m a' := by
  induction m generalizing lo with
  | nil =>
    by_cases hb : b = Memory.unlisted font a <;> by_cases ha : a' = a <;> simp_all [Memory.write, Memory.read]
  | cons c rest ih =>
    obtain ⟨k, v⟩ := c
    simp only [Memory.wfFrom, Bool.and_eq_true, decide_eq_true_eq] at h
    have hrest := ih h.2
    by_cases hlt : a < k
    · have hbelow : Memory.read font rest a = Memory.unlisted font a := Memory.read_below h.2 (by omega)
      have hne : a ≠ k := by omega
      by_cases hb : b = Memory.unlisted font a <;> by_cases ha : a' = a <;>
        simp_all [Memory.write, Memory.read]
    · by_cases heq : a = k
      · subst heq
        have hbelow : Memory.read font rest a = Memory.unlisted font a := Memory.read_below h.2 (by omega)
        by_cases hb : b = Memory.unlisted font a <;> by_cases ha : a' = a <;>
          simp_all [Memory.write, Memory.read]
      · by_cases hk : a' = k
        · have hka : k ≠ a := fun h' => heq h'.symm
          simp [Memory.write, Memory.read, hlt, heq, hk, hka]
        · simp [Memory.write, Memory.read, hlt, heq, hk, hrest]

/-! ### The canonical form is kept -/

theorem Memory.wfFrom_mono {lo lo' : Nat} {m : Memory} (hle : lo' ≤ lo) (h : Memory.wfFrom font lo m = true) :
    Memory.wfFrom font lo' m = true := by
  cases m with
  | nil => rfl
  | cons c rest =>
    obtain ⟨k, v⟩ := c
    simp only [Memory.wfFrom, Bool.and_eq_true, decide_eq_true_eq] at h ⊢
    exact ⟨⟨⟨by omega, h.1.1.2⟩, h.1.2⟩, h.2⟩

theorem Memory.wfFrom_write {lo : Nat} {m : Memory} (h : Memory.wfFrom font lo m = true) {a : Nat} (hlo : lo ≤ a)
    (ha : a < Config.memSize) (b : Byte) : Memory.wfFrom font lo (Memory.write font m a b) = true := by
  induction m generalizing lo with
  | nil =>
    by_cases hb : b = Memory.unlisted font a
    · simp [Memory.write, Memory.wfFrom, hb]
    · simp [Memory.write, Memory.wfFrom, hb, hlo, ha]
  | cons c rest ih =>
    obtain ⟨k, v⟩ := c
    simp only [Memory.wfFrom, Bool.and_eq_true, decide_eq_true_eq] at h
    obtain ⟨⟨⟨hlk, hk⟩, hv⟩, hrest⟩ := h
    unfold Memory.write
    split
    · rename_i hlt
      split
      · simp_all [Memory.wfFrom]
      · rename_i hb
        have hak : a + 1 ≤ k := by omega
        simp_all [Memory.wfFrom]
    · split
      · rename_i _ heq
        subst heq
        split
        · exact Memory.wfFrom_mono (by omega) hrest
        · simp_all [Memory.wfFrom]
      · rename_i hlt hne
        have := ih hrest (by omega)
        simp_all [Memory.wfFrom]

theorem Memory.wf_write {m : Memory} (h : Memory.wf font m = true) {a : Nat} (ha : a < Config.memSize) (b : Byte) :
    Memory.wf font (Memory.write font m a b) = true := Memory.wfFrom_write h (Nat.zero_le a) ha b

theorem Memory.wf_writeBytes {m : Memory} (h : Memory.wf font m = true) {a : Nat} {bs : List Byte}
    (ha : a + bs.length ≤ Config.memSize) : Memory.wf font (Memory.writeBytes font m a bs) = true := by
  induction bs generalizing m a with
  | nil => exact h
  | cons b bs ih =>
    simp only [List.length_cons] at ha
    exact ih (Memory.wf_write h (by omega) b) (by omega)

/-- The bytes written are read back, and every other address reads as before. -/
theorem Memory.read_writeBytes {m : Memory} (h : Memory.wf font m = true) {a : Nat} {bs : List Byte}
    (ha : a + bs.length ≤ Config.memSize) (k : Nat) :
    Memory.read font (Memory.writeBytes font m a bs) k =
      if a ≤ k ∧ k < a + bs.length then bs.getD (k - a) 0 else Memory.read font m k := by
  induction bs generalizing m a with
  | nil =>
    simp [Memory.writeBytes]
  | cons b bs ih =>
    simp only [List.length_cons] at ha ⊢
    rw [Memory.writeBytes, ih (Memory.wf_write h (by omega) b) (by omega), Memory.read_write h]
    by_cases hka : k = a
    · subst hka
      have h2 : k ≤ k ∧ k < k + (bs.length + 1) := by omega
      simp [h2]
    · by_cases hin : a + 1 ≤ k ∧ k < a + 1 + bs.length
      · have h2 : a ≤ k ∧ k < a + (bs.length + 1) := by omega
        have h3 : k - a = (k - (a + 1)) + 1 := by omega
        rw [if_pos hin, if_pos h2, h3, List.getD_cons_succ]
      · have h2 : ¬(a ≤ k ∧ k < a + (bs.length + 1)) := by omega
        rw [if_neg hin, if_neg hka, if_neg h2]

@[simp] theorem Memory.length_readBytes (m : Memory) (a n : Nat) : (Memory.readBytes font m a n).length = n := by
  induction n generalizing a with
  | zero => rfl
  | succ n ih => simp [Memory.readBytes, ih]

theorem Memory.getD_readBytes (m : Memory) {a n k : Nat} (hk : k < n) :
    (Memory.readBytes font m a n).getD k 0 = Memory.read font m (a + k) := by
  induction n generalizing a k with
  | zero => omega
  | succ n ih =>
    cases k with
    | zero => rfl
    | succ k =>
      rw [Memory.readBytes, List.getD_cons_succ, ih (by omega)]
      congr 1
      omega

/-- Memory with nothing listed is in canonical form: the memory of reset. -/
@[simp] theorem Memory.wf_nil : Memory.wf font [] = true := rfl

end Sys2Proof.Machine
end

