-- ==== Sys2Proof/Laws/State.lean ====
section
/-! SUPPORT. What each update of the state does to each field: one lemma per field per update, true by unfolding. -/

namespace Sys2Proof.Machine

variable (s : State)

/-! ### `State.emit` -/

@[simp] theorem State.emit_v (e : Event) : (s.emit e).v = s.v := rfl
@[simp] theorem State.emit_i (e : Event) : (s.emit e).i = s.i := rfl
@[simp] theorem State.emit_pc (e : Event) : (s.emit e).pc = s.pc := rfl
@[simp] theorem State.emit_sp (e : Event) : (s.emit e).sp = s.sp := rfl
@[simp] theorem State.emit_stack (e : Event) : (s.emit e).stack = s.stack := rfl
@[simp] theorem State.emit_dt (e : Event) : (s.emit e).dt = s.dt := rfl
@[simp] theorem State.emit_st (e : Event) : (s.emit e).st = s.st := rfl
@[simp] theorem State.emit_mem (e : Event) : (s.emit e).mem = s.mem := rfl
@[simp] theorem State.emit_fb (e : Event) : (s.emit e).fb = s.fb := rfl
@[simp] theorem State.emit_dirty (e : Event) : (s.emit e).dirty = s.dirty := rfl
@[simp] theorem State.emit_ir (e : Event) : (s.emit e).ir = s.ir := rfl
@[simp] theorem State.emit_q (e : Event) : (s.emit e).q = s.q := rfl
@[simp] theorem State.emit_cfg (e : Event) : (s.emit e).cfg = s.cfg := rfl
@[simp] theorem State.emit_isBooted (e : Event) : (s.emit e).isBooted = s.isBooted := rfl
@[simp] theorem State.emit_isPaused (e : Event) : (s.emit e).isPaused = s.isPaused := rfl
@[simp] theorem State.emit_waitingForKey (e : Event) : (s.emit e).waitingForKey = s.waitingForKey := rfl
@[simp] theorem State.emit_keyTarget (e : Event) : (s.emit e).keyTarget = s.keyTarget := rfl
@[simp] theorem State.emit_waitingForRelease (e : Event) : (s.emit e).waitingForRelease = s.waitingForRelease := rfl
@[simp] theorem State.emit_heldKey (e : Event) : (s.emit e).heldKey = s.heldKey := rfl
@[simp] theorem State.emit_lastError (e : Event) : (s.emit e).lastError = s.lastError := rfl
@[simp] theorem State.emit_cycles (e : Event) : (s.emit e).cycles = s.cycles := rfl
@[simp] theorem State.emit_frames (e : Event) : (s.emit e).frames = s.frames := rfl
@[simp] theorem State.emit_looping (e : Event) : (s.emit e).looping = s.looping := rfl
@[simp] theorem State.emit_inRun (e : Event) : (s.emit e).inRun = s.inRun := rfl
@[simp] theorem State.emit_commands (e : Event) : (s.emit e).commands = s.commands := rfl
@[simp] theorem State.emit_env (e : Event) : (s.emit e).env = s.env := rfl
@[simp] theorem State.emit_draws (e : Event) : (s.emit e).draws = s.draws := rfl
@[simp] theorem State.emit_out (e : Event) : (s.emit e).out = s.out ++ [e] := rfl

/-! ### `State.setV` -/

@[simp] theorem State.setV_v (x : Nibble) (b : Byte) : (s.setV x b).v = s.v.set x.toNat b x.isLt := rfl
@[simp] theorem State.setV_i (x : Nibble) (b : Byte) : (s.setV x b).i = s.i := rfl
@[simp] theorem State.setV_pc (x : Nibble) (b : Byte) : (s.setV x b).pc = s.pc := rfl
@[simp] theorem State.setV_sp (x : Nibble) (b : Byte) : (s.setV x b).sp = s.sp := rfl
@[simp] theorem State.setV_stack (x : Nibble) (b : Byte) : (s.setV x b).stack = s.stack := rfl
@[simp] theorem State.setV_dt (x : Nibble) (b : Byte) : (s.setV x b).dt = s.dt := rfl
@[simp] theorem State.setV_st (x : Nibble) (b : Byte) : (s.setV x b).st = s.st := rfl
@[simp] theorem State.setV_mem (x : Nibble) (b : Byte) : (s.setV x b).mem = s.mem := rfl
@[simp] theorem State.setV_fb (x : Nibble) (b : Byte) : (s.setV x b).fb = s.fb := rfl
@[simp] theorem State.setV_dirty (x : Nibble) (b : Byte) : (s.setV x b).dirty = s.dirty := rfl
@[simp] theorem State.setV_ir (x : Nibble) (b : Byte) : (s.setV x b).ir = s.ir := rfl
@[simp] theorem State.setV_q (x : Nibble) (b : Byte) : (s.setV x b).q = s.q := rfl
@[simp] theorem State.setV_cfg (x : Nibble) (b : Byte) : (s.setV x b).cfg = s.cfg := rfl
@[simp] theorem State.setV_isBooted (x : Nibble) (b : Byte) : (s.setV x b).isBooted = s.isBooted := rfl
@[simp] theorem State.setV_isPaused (x : Nibble) (b : Byte) : (s.setV x b).isPaused = s.isPaused := rfl
@[simp] theorem State.setV_waitingForKey (x : Nibble) (b : Byte) : (s.setV x b).waitingForKey = s.waitingForKey := rfl
@[simp] theorem State.setV_keyTarget (x : Nibble) (b : Byte) : (s.setV x b).keyTarget = s.keyTarget := rfl
@[simp] theorem State.setV_waitingForRelease (x : Nibble) (b : Byte) : (s.setV x b).waitingForRelease = s.waitingForRelease := rfl
@[simp] theorem State.setV_heldKey (x : Nibble) (b : Byte) : (s.setV x b).heldKey = s.heldKey := rfl
@[simp] theorem State.setV_lastError (x : Nibble) (b : Byte) : (s.setV x b).lastError = s.lastError := rfl
@[simp] theorem State.setV_cycles (x : Nibble) (b : Byte) : (s.setV x b).cycles = s.cycles := rfl
@[simp] theorem State.setV_frames (x : Nibble) (b : Byte) : (s.setV x b).frames = s.frames := rfl
@[simp] theorem State.setV_looping (x : Nibble) (b : Byte) : (s.setV x b).looping = s.looping := rfl
@[simp] theorem State.setV_inRun (x : Nibble) (b : Byte) : (s.setV x b).inRun = s.inRun := rfl
@[simp] theorem State.setV_commands (x : Nibble) (b : Byte) : (s.setV x b).commands = s.commands := rfl
@[simp] theorem State.setV_env (x : Nibble) (b : Byte) : (s.setV x b).env = s.env := rfl
@[simp] theorem State.setV_draws (x : Nibble) (b : Byte) : (s.setV x b).draws = s.draws := rfl
@[simp] theorem State.setV_out (x : Nibble) (b : Byte) : (s.setV x b).out = s.out := rfl

/-! ### `State.setVF` -/

@[simp] theorem State.setVF_v (b : Byte) : (s.setVF b).v = s.v.set 15 b := rfl
@[simp] theorem State.setVF_i (b : Byte) : (s.setVF b).i = s.i := rfl
@[simp] theorem State.setVF_pc (b : Byte) : (s.setVF b).pc = s.pc := rfl
@[simp] theorem State.setVF_sp (b : Byte) : (s.setVF b).sp = s.sp := rfl
@[simp] theorem State.setVF_stack (b : Byte) : (s.setVF b).stack = s.stack := rfl
@[simp] theorem State.setVF_dt (b : Byte) : (s.setVF b).dt = s.dt := rfl
@[simp] theorem State.setVF_st (b : Byte) : (s.setVF b).st = s.st := rfl
@[simp] theorem State.setVF_mem (b : Byte) : (s.setVF b).mem = s.mem := rfl
@[simp] theorem State.setVF_fb (b : Byte) : (s.setVF b).fb = s.fb := rfl
@[simp] theorem State.setVF_dirty (b : Byte) : (s.setVF b).dirty = s.dirty := rfl
@[simp] theorem State.setVF_ir (b : Byte) : (s.setVF b).ir = s.ir := rfl
@[simp] theorem State.setVF_q (b : Byte) : (s.setVF b).q = s.q := rfl
@[simp] theorem State.setVF_cfg (b : Byte) : (s.setVF b).cfg = s.cfg := rfl
@[simp] theorem State.setVF_isBooted (b : Byte) : (s.setVF b).isBooted = s.isBooted := rfl
@[simp] theorem State.setVF_isPaused (b : Byte) : (s.setVF b).isPaused = s.isPaused := rfl
@[simp] theorem State.setVF_waitingForKey (b : Byte) : (s.setVF b).waitingForKey = s.waitingForKey := rfl
@[simp] theorem State.setVF_keyTarget (b : Byte) : (s.setVF b).keyTarget = s.keyTarget := rfl
@[simp] theorem State.setVF_waitingForRelease (b : Byte) : (s.setVF b).waitingForRelease = s.waitingForRelease := rfl
@[simp] theorem State.setVF_heldKey (b : Byte) : (s.setVF b).heldKey = s.heldKey := rfl
@[simp] theorem State.setVF_lastError (b : Byte) : (s.setVF b).lastError = s.lastError := rfl
@[simp] theorem State.setVF_cycles (b : Byte) : (s.setVF b).cycles = s.cycles := rfl
@[simp] theorem State.setVF_frames (b : Byte) : (s.setVF b).frames = s.frames := rfl
@[simp] theorem State.setVF_looping (b : Byte) : (s.setVF b).looping = s.looping := rfl
@[simp] theorem State.setVF_inRun (b : Byte) : (s.setVF b).inRun = s.inRun := rfl
@[simp] theorem State.setVF_commands (b : Byte) : (s.setVF b).commands = s.commands := rfl
@[simp] theorem State.setVF_env (b : Byte) : (s.setVF b).env = s.env := rfl
@[simp] theorem State.setVF_draws (b : Byte) : (s.setVF b).draws = s.draws := rfl
@[simp] theorem State.setVF_out (b : Byte) : (s.setVF b).out = s.out := rfl

/-! ### `State.setPc` -/

@[simp] theorem State.setPc_v (w : Word) : (s.setPc w).v = s.v := rfl
@[simp] theorem State.setPc_i (w : Word) : (s.setPc w).i = s.i := rfl
@[simp] theorem State.setPc_pc (w : Word) : (s.setPc w).pc = w := rfl
@[simp] theorem State.setPc_sp (w : Word) : (s.setPc w).sp = s.sp := rfl
@[simp] theorem State.setPc_stack (w : Word) : (s.setPc w).stack = s.stack := rfl
@[simp] theorem State.setPc_dt (w : Word) : (s.setPc w).dt = s.dt := rfl
@[simp] theorem State.setPc_st (w : Word) : (s.setPc w).st = s.st := rfl
@[simp] theorem State.setPc_mem (w : Word) : (s.setPc w).mem = s.mem := rfl
@[simp] theorem State.setPc_fb (w : Word) : (s.setPc w).fb = s.fb := rfl
@[simp] theorem State.setPc_dirty (w : Word) : (s.setPc w).dirty = s.dirty := rfl
@[simp] theorem State.setPc_ir (w : Word) : (s.setPc w).ir = s.ir := rfl
@[simp] theorem State.setPc_q (w : Word) : (s.setPc w).q = s.q := rfl
@[simp] theorem State.setPc_cfg (w : Word) : (s.setPc w).cfg = s.cfg := rfl
@[simp] theorem State.setPc_isBooted (w : Word) : (s.setPc w).isBooted = s.isBooted := rfl
@[simp] theorem State.setPc_isPaused (w : Word) : (s.setPc w).isPaused = s.isPaused := rfl
@[simp] theorem State.setPc_waitingForKey (w : Word) : (s.setPc w).waitingForKey = s.waitingForKey := rfl
@[simp] theorem State.setPc_keyTarget (w : Word) : (s.setPc w).keyTarget = s.keyTarget := rfl
@[simp] theorem State.setPc_waitingForRelease (w : Word) : (s.setPc w).waitingForRelease = s.waitingForRelease := rfl
@[simp] theorem State.setPc_heldKey (w : Word) : (s.setPc w).heldKey = s.heldKey := rfl
@[simp] theorem State.setPc_lastError (w : Word) : (s.setPc w).lastError = s.lastError := rfl
@[simp] theorem State.setPc_cycles (w : Word) : (s.setPc w).cycles = s.cycles := rfl
@[simp] theorem State.setPc_frames (w : Word) : (s.setPc w).frames = s.frames := rfl
@[simp] theorem State.setPc_looping (w : Word) : (s.setPc w).looping = s.looping := rfl
@[simp] theorem State.setPc_inRun (w : Word) : (s.setPc w).inRun = s.inRun := rfl
@[simp] theorem State.setPc_commands (w : Word) : (s.setPc w).commands = s.commands := rfl
@[simp] theorem State.setPc_env (w : Word) : (s.setPc w).env = s.env := rfl
@[simp] theorem State.setPc_draws (w : Word) : (s.setPc w).draws = s.draws := rfl
@[simp] theorem State.setPc_out (w : Word) : (s.setPc w).out = s.out := rfl

/-! ### `State.advancePc` -/

@[simp] theorem State.advancePc_v : (s.advancePc).v = s.v := rfl
@[simp] theorem State.advancePc_i : (s.advancePc).i = s.i := rfl
@[simp] theorem State.advancePc_pc : (s.advancePc).pc = s.pc + 2 := rfl
@[simp] theorem State.advancePc_sp : (s.advancePc).sp = s.sp := rfl
@[simp] theorem State.advancePc_stack : (s.advancePc).stack = s.stack := rfl
@[simp] theorem State.advancePc_dt : (s.advancePc).dt = s.dt := rfl
@[simp] theorem State.advancePc_st : (s.advancePc).st = s.st := rfl
@[simp] theorem State.advancePc_mem : (s.advancePc).mem = s.mem := rfl
@[simp] theorem State.advancePc_fb : (s.advancePc).fb = s.fb := rfl
@[simp] theorem State.advancePc_dirty : (s.advancePc).dirty = s.dirty := rfl
@[simp] theorem State.advancePc_ir : (s.advancePc).ir = s.ir := rfl
@[simp] theorem State.advancePc_q : (s.advancePc).q = s.q := rfl
@[simp] theorem State.advancePc_cfg : (s.advancePc).cfg = s.cfg := rfl
@[simp] theorem State.advancePc_isBooted : (s.advancePc).isBooted = s.isBooted := rfl
@[simp] theorem State.advancePc_isPaused : (s.advancePc).isPaused = s.isPaused := rfl
@[simp] theorem State.advancePc_waitingForKey : (s.advancePc).waitingForKey = s.waitingForKey := rfl
@[simp] theorem State.advancePc_keyTarget : (s.advancePc).keyTarget = s.keyTarget := rfl
@[simp] theorem State.advancePc_waitingForRelease : (s.advancePc).waitingForRelease = s.waitingForRelease := rfl
@[simp] theorem State.advancePc_heldKey : (s.advancePc).heldKey = s.heldKey := rfl
@[simp] theorem State.advancePc_lastError : (s.advancePc).lastError = s.lastError := rfl
@[simp] theorem State.advancePc_cycles : (s.advancePc).cycles = s.cycles := rfl
@[simp] theorem State.advancePc_frames : (s.advancePc).frames = s.frames := rfl
@[simp] theorem State.advancePc_looping : (s.advancePc).looping = s.looping := rfl
@[simp] theorem State.advancePc_inRun : (s.advancePc).inRun = s.inRun := rfl
@[simp] theorem State.advancePc_commands : (s.advancePc).commands = s.commands := rfl
@[simp] theorem State.advancePc_env : (s.advancePc).env = s.env := rfl
@[simp] theorem State.advancePc_draws : (s.advancePc).draws = s.draws := rfl
@[simp] theorem State.advancePc_out : (s.advancePc).out = s.out := rfl

/-! ### `State.skipIf` -/

@[simp] theorem State.skipIf_v (c : Bool) : (s.skipIf c).v = s.v := rfl
@[simp] theorem State.skipIf_i (c : Bool) : (s.skipIf c).i = s.i := rfl
@[simp] theorem State.skipIf_pc (c : Bool) : (s.skipIf c).pc = if c then s.pc + 2 else s.pc := rfl
@[simp] theorem State.skipIf_sp (c : Bool) : (s.skipIf c).sp = s.sp := rfl
@[simp] theorem State.skipIf_stack (c : Bool) : (s.skipIf c).stack = s.stack := rfl
@[simp] theorem State.skipIf_dt (c : Bool) : (s.skipIf c).dt = s.dt := rfl
@[simp] theorem State.skipIf_st (c : Bool) : (s.skipIf c).st = s.st := rfl
@[simp] theorem State.skipIf_mem (c : Bool) : (s.skipIf c).mem = s.mem := rfl
@[simp] theorem State.skipIf_fb (c : Bool) : (s.skipIf c).fb = s.fb := rfl
@[simp] theorem State.skipIf_dirty (c : Bool) : (s.skipIf c).dirty = s.dirty := rfl
@[simp] theorem State.skipIf_ir (c : Bool) : (s.skipIf c).ir = s.ir := rfl
@[simp] theorem State.skipIf_q (c : Bool) : (s.skipIf c).q = s.q := rfl
@[simp] theorem State.skipIf_cfg (c : Bool) : (s.skipIf c).cfg = s.cfg := rfl
@[simp] theorem State.skipIf_isBooted (c : Bool) : (s.skipIf c).isBooted = s.isBooted := rfl
@[simp] theorem State.skipIf_isPaused (c : Bool) : (s.skipIf c).isPaused = s.isPaused := rfl
@[simp] theorem State.skipIf_waitingForKey (c : Bool) : (s.skipIf c).waitingForKey = s.waitingForKey := rfl
@[simp] theorem State.skipIf_keyTarget (c : Bool) : (s.skipIf c).keyTarget = s.keyTarget := rfl
@[simp] theorem State.skipIf_waitingForRelease (c : Bool) : (s.skipIf c).waitingForRelease = s.waitingForRelease := rfl
@[simp] theorem State.skipIf_heldKey (c : Bool) : (s.skipIf c).heldKey = s.heldKey := rfl
@[simp] theorem State.skipIf_lastError (c : Bool) : (s.skipIf c).lastError = s.lastError := rfl
@[simp] theorem State.skipIf_cycles (c : Bool) : (s.skipIf c).cycles = s.cycles := rfl
@[simp] theorem State.skipIf_frames (c : Bool) : (s.skipIf c).frames = s.frames := rfl
@[simp] theorem State.skipIf_looping (c : Bool) : (s.skipIf c).looping = s.looping := rfl
@[simp] theorem State.skipIf_inRun (c : Bool) : (s.skipIf c).inRun = s.inRun := rfl
@[simp] theorem State.skipIf_commands (c : Bool) : (s.skipIf c).commands = s.commands := rfl
@[simp] theorem State.skipIf_env (c : Bool) : (s.skipIf c).env = s.env := rfl
@[simp] theorem State.skipIf_draws (c : Bool) : (s.skipIf c).draws = s.draws := rfl
@[simp] theorem State.skipIf_out (c : Bool) : (s.skipIf c).out = s.out := rfl

/-! ### `State.setI` -/

@[simp] theorem State.setI_v (w : Word) : (s.setI w).v = s.v := rfl
@[simp] theorem State.setI_i (w : Word) : (s.setI w).i = w := rfl
@[simp] theorem State.setI_pc (w : Word) : (s.setI w).pc = s.pc := rfl
@[simp] theorem State.setI_sp (w : Word) : (s.setI w).sp = s.sp := rfl
@[simp] theorem State.setI_stack (w : Word) : (s.setI w).stack = s.stack := rfl
@[simp] theorem State.setI_dt (w : Word) : (s.setI w).dt = s.dt := rfl
@[simp] theorem State.setI_st (w : Word) : (s.setI w).st = s.st := rfl
@[simp] theorem State.setI_mem (w : Word) : (s.setI w).mem = s.mem := rfl
@[simp] theorem State.setI_fb (w : Word) : (s.setI w).fb = s.fb := rfl
@[simp] theorem State.setI_dirty (w : Word) : (s.setI w).dirty = s.dirty := rfl
@[simp] theorem State.setI_ir (w : Word) : (s.setI w).ir = s.ir := rfl
@[simp] theorem State.setI_q (w : Word) : (s.setI w).q = s.q := rfl
@[simp] theorem State.setI_cfg (w : Word) : (s.setI w).cfg = s.cfg := rfl
@[simp] theorem State.setI_isBooted (w : Word) : (s.setI w).isBooted = s.isBooted := rfl
@[simp] theorem State.setI_isPaused (w : Word) : (s.setI w).isPaused = s.isPaused := rfl
@[simp] theorem State.setI_waitingForKey (w : Word) : (s.setI w).waitingForKey = s.waitingForKey := rfl
@[simp] theorem State.setI_keyTarget (w : Word) : (s.setI w).keyTarget = s.keyTarget := rfl
@[simp] theorem State.setI_waitingForRelease (w : Word) : (s.setI w).waitingForRelease = s.waitingForRelease := rfl
@[simp] theorem State.setI_heldKey (w : Word) : (s.setI w).heldKey = s.heldKey := rfl
@[simp] theorem State.setI_lastError (w : Word) : (s.setI w).lastError = s.lastError := rfl
@[simp] theorem State.setI_cycles (w : Word) : (s.setI w).cycles = s.cycles := rfl
@[simp] theorem State.setI_frames (w : Word) : (s.setI w).frames = s.frames := rfl
@[simp] theorem State.setI_looping (w : Word) : (s.setI w).looping = s.looping := rfl
@[simp] theorem State.setI_inRun (w : Word) : (s.setI w).inRun = s.inRun := rfl
@[simp] theorem State.setI_commands (w : Word) : (s.setI w).commands = s.commands := rfl
@[simp] theorem State.setI_env (w : Word) : (s.setI w).env = s.env := rfl
@[simp] theorem State.setI_draws (w : Word) : (s.setI w).draws = s.draws := rfl
@[simp] theorem State.setI_out (w : Word) : (s.setI w).out = s.out := rfl

/-! ### `State.push` -/

@[simp] theorem State.push_v : (s.push).v = s.v := rfl
@[simp] theorem State.push_i : (s.push).i = s.i := rfl
@[simp] theorem State.push_pc : (s.push).pc = s.pc := rfl
@[simp] theorem State.push_sp : (s.push).sp = s.sp + 1 := rfl
@[simp] theorem State.push_stack : (s.push).stack = s.stack.setIfInBounds s.sp.toNat s.pc := rfl
@[simp] theorem State.push_dt : (s.push).dt = s.dt := rfl
@[simp] theorem State.push_st : (s.push).st = s.st := rfl
@[simp] theorem State.push_mem : (s.push).mem = s.mem := rfl
@[simp] theorem State.push_fb : (s.push).fb = s.fb := rfl
@[simp] theorem State.push_dirty : (s.push).dirty = s.dirty := rfl
@[simp] theorem State.push_ir : (s.push).ir = s.ir := rfl
@[simp] theorem State.push_q : (s.push).q = s.q := rfl
@[simp] theorem State.push_cfg : (s.push).cfg = s.cfg := rfl
@[simp] theorem State.push_isBooted : (s.push).isBooted = s.isBooted := rfl
@[simp] theorem State.push_isPaused : (s.push).isPaused = s.isPaused := rfl
@[simp] theorem State.push_waitingForKey : (s.push).waitingForKey = s.waitingForKey := rfl
@[simp] theorem State.push_keyTarget : (s.push).keyTarget = s.keyTarget := rfl
@[simp] theorem State.push_waitingForRelease : (s.push).waitingForRelease = s.waitingForRelease := rfl
@[simp] theorem State.push_heldKey : (s.push).heldKey = s.heldKey := rfl
@[simp] theorem State.push_lastError : (s.push).lastError = s.lastError := rfl
@[simp] theorem State.push_cycles : (s.push).cycles = s.cycles := rfl
@[simp] theorem State.push_frames : (s.push).frames = s.frames := rfl
@[simp] theorem State.push_looping : (s.push).looping = s.looping := rfl
@[simp] theorem State.push_inRun : (s.push).inRun = s.inRun := rfl
@[simp] theorem State.push_commands : (s.push).commands = s.commands := rfl
@[simp] theorem State.push_env : (s.push).env = s.env := rfl
@[simp] theorem State.push_draws : (s.push).draws = s.draws := rfl
@[simp] theorem State.push_out : (s.push).out = s.out := rfl

/-! ### `State.popTo` -/

@[simp] theorem State.popTo_v (w : Word) : (s.popTo w).v = s.v := rfl
@[simp] theorem State.popTo_i (w : Word) : (s.popTo w).i = s.i := rfl
@[simp] theorem State.popTo_pc (w : Word) : (s.popTo w).pc = w := rfl
@[simp] theorem State.popTo_sp (w : Word) : (s.popTo w).sp = s.sp - 1 := rfl
@[simp] theorem State.popTo_stack (w : Word) : (s.popTo w).stack = s.stack := rfl
@[simp] theorem State.popTo_dt (w : Word) : (s.popTo w).dt = s.dt := rfl
@[simp] theorem State.popTo_st (w : Word) : (s.popTo w).st = s.st := rfl
@[simp] theorem State.popTo_mem (w : Word) : (s.popTo w).mem = s.mem := rfl
@[simp] theorem State.popTo_fb (w : Word) : (s.popTo w).fb = s.fb := rfl
@[simp] theorem State.popTo_dirty (w : Word) : (s.popTo w).dirty = s.dirty := rfl
@[simp] theorem State.popTo_ir (w : Word) : (s.popTo w).ir = s.ir := rfl
@[simp] theorem State.popTo_q (w : Word) : (s.popTo w).q = s.q := rfl
@[simp] theorem State.popTo_cfg (w : Word) : (s.popTo w).cfg = s.cfg := rfl
@[simp] theorem State.popTo_isBooted (w : Word) : (s.popTo w).isBooted = s.isBooted := rfl
@[simp] theorem State.popTo_isPaused (w : Word) : (s.popTo w).isPaused = s.isPaused := rfl
@[simp] theorem State.popTo_waitingForKey (w : Word) : (s.popTo w).waitingForKey = s.waitingForKey := rfl
@[simp] theorem State.popTo_keyTarget (w : Word) : (s.popTo w).keyTarget = s.keyTarget := rfl
@[simp] theorem State.popTo_waitingForRelease (w : Word) : (s.popTo w).waitingForRelease = s.waitingForRelease := rfl
@[simp] theorem State.popTo_heldKey (w : Word) : (s.popTo w).heldKey = s.heldKey := rfl
@[simp] theorem State.popTo_lastError (w : Word) : (s.popTo w).lastError = s.lastError := rfl
@[simp] theorem State.popTo_cycles (w : Word) : (s.popTo w).cycles = s.cycles := rfl
@[simp] theorem State.popTo_frames (w : Word) : (s.popTo w).frames = s.frames := rfl
@[simp] theorem State.popTo_looping (w : Word) : (s.popTo w).looping = s.looping := rfl
@[simp] theorem State.popTo_inRun (w : Word) : (s.popTo w).inRun = s.inRun := rfl
@[simp] theorem State.popTo_commands (w : Word) : (s.popTo w).commands = s.commands := rfl
@[simp] theorem State.popTo_env (w : Word) : (s.popTo w).env = s.env := rfl
@[simp] theorem State.popTo_draws (w : Word) : (s.popTo w).draws = s.draws := rfl
@[simp] theorem State.popTo_out (w : Word) : (s.popTo w).out = s.out := rfl

/-! ### `State.raise` -/

@[simp] theorem State.raise_v (e : Error) : (s.raise e).v = s.v := rfl
@[simp] theorem State.raise_i (e : Error) : (s.raise e).i = s.i := rfl
@[simp] theorem State.raise_pc (e : Error) : (s.raise e).pc = s.pc := rfl
@[simp] theorem State.raise_sp (e : Error) : (s.raise e).sp = s.sp := rfl
@[simp] theorem State.raise_stack (e : Error) : (s.raise e).stack = s.stack := rfl
@[simp] theorem State.raise_dt (e : Error) : (s.raise e).dt = s.dt := rfl
@[simp] theorem State.raise_st (e : Error) : (s.raise e).st = s.st := rfl
@[simp] theorem State.raise_mem (e : Error) : (s.raise e).mem = s.mem := rfl
@[simp] theorem State.raise_fb (e : Error) : (s.raise e).fb = s.fb := rfl
@[simp] theorem State.raise_dirty (e : Error) : (s.raise e).dirty = s.dirty := rfl
@[simp] theorem State.raise_ir (e : Error) : (s.raise e).ir = s.ir := rfl
@[simp] theorem State.raise_q (e : Error) : (s.raise e).q = s.q := rfl
@[simp] theorem State.raise_cfg (e : Error) : (s.raise e).cfg = s.cfg := rfl
@[simp] theorem State.raise_isBooted (e : Error) : (s.raise e).isBooted = s.isBooted := rfl
@[simp] theorem State.raise_isPaused (e : Error) : (s.raise e).isPaused = s.isPaused := rfl
@[simp] theorem State.raise_waitingForKey (e : Error) : (s.raise e).waitingForKey = s.waitingForKey := rfl
@[simp] theorem State.raise_keyTarget (e : Error) : (s.raise e).keyTarget = s.keyTarget := rfl
@[simp] theorem State.raise_waitingForRelease (e : Error) : (s.raise e).waitingForRelease = s.waitingForRelease := rfl
@[simp] theorem State.raise_heldKey (e : Error) : (s.raise e).heldKey = s.heldKey := rfl
@[simp] theorem State.raise_lastError (e : Error) : (s.raise e).lastError = some e := rfl
@[simp] theorem State.raise_cycles (e : Error) : (s.raise e).cycles = s.cycles := rfl
@[simp] theorem State.raise_frames (e : Error) : (s.raise e).frames = s.frames := rfl
@[simp] theorem State.raise_looping (e : Error) : (s.raise e).looping = s.looping := rfl
@[simp] theorem State.raise_inRun (e : Error) : (s.raise e).inRun = s.inRun := rfl
@[simp] theorem State.raise_commands (e : Error) : (s.raise e).commands = s.commands := rfl
@[simp] theorem State.raise_env (e : Error) : (s.raise e).env = s.env := rfl
@[simp] theorem State.raise_draws (e : Error) : (s.raise e).draws = s.draws := rfl
@[simp] theorem State.raise_out (e : Error) : (s.raise e).out = s.out ++ [.strobe .onError] := rfl

/-! ### `State.keyPressedAsked` -/

@[simp] theorem State.keyPressedAsked_v (k : Byte) : (s.keyPressedAsked k).v = s.v := rfl
@[simp] theorem State.keyPressedAsked_i (k : Byte) : (s.keyPressedAsked k).i = s.i := rfl
@[simp] theorem State.keyPressedAsked_pc (k : Byte) : (s.keyPressedAsked k).pc = s.pc := rfl
@[simp] theorem State.keyPressedAsked_sp (k : Byte) : (s.keyPressedAsked k).sp = s.sp := rfl
@[simp] theorem State.keyPressedAsked_stack (k : Byte) : (s.keyPressedAsked k).stack = s.stack := rfl
@[simp] theorem State.keyPressedAsked_dt (k : Byte) : (s.keyPressedAsked k).dt = s.dt := rfl
@[simp] theorem State.keyPressedAsked_st (k : Byte) : (s.keyPressedAsked k).st = s.st := rfl
@[simp] theorem State.keyPressedAsked_mem (k : Byte) : (s.keyPressedAsked k).mem = s.mem := rfl
@[simp] theorem State.keyPressedAsked_fb (k : Byte) : (s.keyPressedAsked k).fb = s.fb := rfl
@[simp] theorem State.keyPressedAsked_dirty (k : Byte) : (s.keyPressedAsked k).dirty = s.dirty := rfl
@[simp] theorem State.keyPressedAsked_ir (k : Byte) : (s.keyPressedAsked k).ir = s.ir := rfl
@[simp] theorem State.keyPressedAsked_q (k : Byte) : (s.keyPressedAsked k).q = s.q := rfl
@[simp] theorem State.keyPressedAsked_cfg (k : Byte) : (s.keyPressedAsked k).cfg = s.cfg := rfl
@[simp] theorem State.keyPressedAsked_isBooted (k : Byte) : (s.keyPressedAsked k).isBooted = s.isBooted := rfl
@[simp] theorem State.keyPressedAsked_isPaused (k : Byte) : (s.keyPressedAsked k).isPaused = s.isPaused := rfl
@[simp] theorem State.keyPressedAsked_waitingForKey (k : Byte) : (s.keyPressedAsked k).waitingForKey = s.waitingForKey := rfl
@[simp] theorem State.keyPressedAsked_keyTarget (k : Byte) : (s.keyPressedAsked k).keyTarget = s.keyTarget := rfl
@[simp] theorem State.keyPressedAsked_waitingForRelease (k : Byte) : (s.keyPressedAsked k).waitingForRelease = s.waitingForRelease := rfl
@[simp] theorem State.keyPressedAsked_heldKey (k : Byte) : (s.keyPressedAsked k).heldKey = s.heldKey := rfl
@[simp] theorem State.keyPressedAsked_lastError (k : Byte) : (s.keyPressedAsked k).lastError = s.lastError := rfl
@[simp] theorem State.keyPressedAsked_cycles (k : Byte) : (s.keyPressedAsked k).cycles = s.cycles := rfl
@[simp] theorem State.keyPressedAsked_frames (k : Byte) : (s.keyPressedAsked k).frames = s.frames := rfl
@[simp] theorem State.keyPressedAsked_looping (k : Byte) : (s.keyPressedAsked k).looping = s.looping := rfl
@[simp] theorem State.keyPressedAsked_inRun (k : Byte) : (s.keyPressedAsked k).inRun = s.inRun := rfl
@[simp] theorem State.keyPressedAsked_commands (k : Byte) : (s.keyPressedAsked k).commands = s.commands := rfl
@[simp] theorem State.keyPressedAsked_out (k : Byte) : (s.keyPressedAsked k).out = s.out ++ [.keyPressed k (s.keyPressedAnswer k)] := rfl

/-! ### `State.keyAnyAsked` -/

@[simp] theorem State.keyAnyAsked_v : (s.keyAnyAsked).v = s.v := rfl
@[simp] theorem State.keyAnyAsked_i : (s.keyAnyAsked).i = s.i := rfl
@[simp] theorem State.keyAnyAsked_pc : (s.keyAnyAsked).pc = s.pc := rfl
@[simp] theorem State.keyAnyAsked_sp : (s.keyAnyAsked).sp = s.sp := rfl
@[simp] theorem State.keyAnyAsked_stack : (s.keyAnyAsked).stack = s.stack := rfl
@[simp] theorem State.keyAnyAsked_dt : (s.keyAnyAsked).dt = s.dt := rfl
@[simp] theorem State.keyAnyAsked_st : (s.keyAnyAsked).st = s.st := rfl
@[simp] theorem State.keyAnyAsked_mem : (s.keyAnyAsked).mem = s.mem := rfl
@[simp] theorem State.keyAnyAsked_fb : (s.keyAnyAsked).fb = s.fb := rfl
@[simp] theorem State.keyAnyAsked_dirty : (s.keyAnyAsked).dirty = s.dirty := rfl
@[simp] theorem State.keyAnyAsked_ir : (s.keyAnyAsked).ir = s.ir := rfl
@[simp] theorem State.keyAnyAsked_q : (s.keyAnyAsked).q = s.q := rfl
@[simp] theorem State.keyAnyAsked_cfg : (s.keyAnyAsked).cfg = s.cfg := rfl
@[simp] theorem State.keyAnyAsked_isBooted : (s.keyAnyAsked).isBooted = s.isBooted := rfl
@[simp] theorem State.keyAnyAsked_isPaused : (s.keyAnyAsked).isPaused = s.isPaused := rfl
@[simp] theorem State.keyAnyAsked_waitingForKey : (s.keyAnyAsked).waitingForKey = s.waitingForKey := rfl
@[simp] theorem State.keyAnyAsked_keyTarget : (s.keyAnyAsked).keyTarget = s.keyTarget := rfl
@[simp] theorem State.keyAnyAsked_waitingForRelease : (s.keyAnyAsked).waitingForRelease = s.waitingForRelease := rfl
@[simp] theorem State.keyAnyAsked_heldKey : (s.keyAnyAsked).heldKey = s.heldKey := rfl
@[simp] theorem State.keyAnyAsked_lastError : (s.keyAnyAsked).lastError = s.lastError := rfl
@[simp] theorem State.keyAnyAsked_cycles : (s.keyAnyAsked).cycles = s.cycles := rfl
@[simp] theorem State.keyAnyAsked_frames : (s.keyAnyAsked).frames = s.frames := rfl
@[simp] theorem State.keyAnyAsked_looping : (s.keyAnyAsked).looping = s.looping := rfl
@[simp] theorem State.keyAnyAsked_inRun : (s.keyAnyAsked).inRun = s.inRun := rfl
@[simp] theorem State.keyAnyAsked_commands : (s.keyAnyAsked).commands = s.commands := rfl
@[simp] theorem State.keyAnyAsked_out : (s.keyAnyAsked).out = s.out ++ [.keyAny s.keyAnyAnswer] := rfl

/-! ### `State.randAsked` -/

@[simp] theorem State.randAsked_v : (s.randAsked).v = s.v := rfl
@[simp] theorem State.randAsked_i : (s.randAsked).i = s.i := rfl
@[simp] theorem State.randAsked_pc : (s.randAsked).pc = s.pc := rfl
@[simp] theorem State.randAsked_sp : (s.randAsked).sp = s.sp := rfl
@[simp] theorem State.randAsked_stack : (s.randAsked).stack = s.stack := rfl
@[simp] theorem State.randAsked_dt : (s.randAsked).dt = s.dt := rfl
@[simp] theorem State.randAsked_st : (s.randAsked).st = s.st := rfl
@[simp] theorem State.randAsked_mem : (s.randAsked).mem = s.mem := rfl
@[simp] theorem State.randAsked_fb : (s.randAsked).fb = s.fb := rfl
@[simp] theorem State.randAsked_dirty : (s.randAsked).dirty = s.dirty := rfl
@[simp] theorem State.randAsked_ir : (s.randAsked).ir = s.ir := rfl
@[simp] theorem State.randAsked_q : (s.randAsked).q = s.q := rfl
@[simp] theorem State.randAsked_cfg : (s.randAsked).cfg = s.cfg := rfl
@[simp] theorem State.randAsked_isBooted : (s.randAsked).isBooted = s.isBooted := rfl
@[simp] theorem State.randAsked_isPaused : (s.randAsked).isPaused = s.isPaused := rfl
@[simp] theorem State.randAsked_waitingForKey : (s.randAsked).waitingForKey = s.waitingForKey := rfl
@[simp] theorem State.randAsked_keyTarget : (s.randAsked).keyTarget = s.keyTarget := rfl
@[simp] theorem State.randAsked_waitingForRelease : (s.randAsked).waitingForRelease = s.waitingForRelease := rfl
@[simp] theorem State.randAsked_heldKey : (s.randAsked).heldKey = s.heldKey := rfl
@[simp] theorem State.randAsked_lastError : (s.randAsked).lastError = s.lastError := rfl
@[simp] theorem State.randAsked_cycles : (s.randAsked).cycles = s.cycles := rfl
@[simp] theorem State.randAsked_frames : (s.randAsked).frames = s.frames := rfl
@[simp] theorem State.randAsked_looping : (s.randAsked).looping = s.looping := rfl
@[simp] theorem State.randAsked_inRun : (s.randAsked).inRun = s.inRun := rfl
@[simp] theorem State.randAsked_commands : (s.randAsked).commands = s.commands := rfl
@[simp] theorem State.randAsked_out : (s.randAsked).out = s.out ++ [.rand s.randAnswer] := rfl

/-! ### `State.renderAsked` -/

@[simp] theorem State.renderAsked_v : (s.renderAsked).v = s.v := rfl
@[simp] theorem State.renderAsked_i : (s.renderAsked).i = s.i := rfl
@[simp] theorem State.renderAsked_pc : (s.renderAsked).pc = s.pc := rfl
@[simp] theorem State.renderAsked_sp : (s.renderAsked).sp = s.sp := rfl
@[simp] theorem State.renderAsked_stack : (s.renderAsked).stack = s.stack := rfl
@[simp] theorem State.renderAsked_dt : (s.renderAsked).dt = s.dt := rfl
@[simp] theorem State.renderAsked_st : (s.renderAsked).st = s.st := rfl
@[simp] theorem State.renderAsked_mem : (s.renderAsked).mem = s.mem := rfl
@[simp] theorem State.renderAsked_fb : (s.renderAsked).fb = s.fb := rfl
@[simp] theorem State.renderAsked_dirty : (s.renderAsked).dirty = s.dirty := rfl
@[simp] theorem State.renderAsked_ir : (s.renderAsked).ir = s.ir := rfl
@[simp] theorem State.renderAsked_q : (s.renderAsked).q = s.q := rfl
@[simp] theorem State.renderAsked_cfg : (s.renderAsked).cfg = s.cfg := rfl
@[simp] theorem State.renderAsked_isBooted : (s.renderAsked).isBooted = s.isBooted := rfl
@[simp] theorem State.renderAsked_isPaused : (s.renderAsked).isPaused = s.isPaused := rfl
@[simp] theorem State.renderAsked_waitingForKey : (s.renderAsked).waitingForKey = s.waitingForKey := rfl
@[simp] theorem State.renderAsked_keyTarget : (s.renderAsked).keyTarget = s.keyTarget := rfl
@[simp] theorem State.renderAsked_waitingForRelease : (s.renderAsked).waitingForRelease = s.waitingForRelease := rfl
@[simp] theorem State.renderAsked_heldKey : (s.renderAsked).heldKey = s.heldKey := rfl
@[simp] theorem State.renderAsked_lastError : (s.renderAsked).lastError = s.lastError := rfl
@[simp] theorem State.renderAsked_cycles : (s.renderAsked).cycles = s.cycles := rfl
@[simp] theorem State.renderAsked_frames : (s.renderAsked).frames = s.frames := rfl
@[simp] theorem State.renderAsked_looping : (s.renderAsked).looping = s.looping := rfl
@[simp] theorem State.renderAsked_inRun : (s.renderAsked).inRun = s.inRun := rfl
@[simp] theorem State.renderAsked_commands : (s.renderAsked).commands = s.commands := rfl
@[simp] theorem State.renderAsked_out : (s.renderAsked).out = s.out ++ [.render s.fb s.cfg.screenW s.cfg.screenH s.renderAnswer] := rfl

/-! ### `State.portBootAsked` -/

@[simp] theorem State.portBootAsked_v (p : Port) : (s.portBootAsked p).v = s.v := rfl
@[simp] theorem State.portBootAsked_i (p : Port) : (s.portBootAsked p).i = s.i := rfl
@[simp] theorem State.portBootAsked_pc (p : Port) : (s.portBootAsked p).pc = s.pc := rfl
@[simp] theorem State.portBootAsked_sp (p : Port) : (s.portBootAsked p).sp = s.sp := rfl
@[simp] theorem State.portBootAsked_stack (p : Port) : (s.portBootAsked p).stack = s.stack := rfl
@[simp] theorem State.portBootAsked_dt (p : Port) : (s.portBootAsked p).dt = s.dt := rfl
@[simp] theorem State.portBootAsked_st (p : Port) : (s.portBootAsked p).st = s.st := rfl
@[simp] theorem State.portBootAsked_mem (p : Port) : (s.portBootAsked p).mem = s.mem := rfl
@[simp] theorem State.portBootAsked_fb (p : Port) : (s.portBootAsked p).fb = s.fb := rfl
@[simp] theorem State.portBootAsked_dirty (p : Port) : (s.portBootAsked p).dirty = s.dirty := rfl
@[simp] theorem State.portBootAsked_ir (p : Port) : (s.portBootAsked p).ir = s.ir := rfl
@[simp] theorem State.portBootAsked_q (p : Port) : (s.portBootAsked p).q = s.q := rfl
@[simp] theorem State.portBootAsked_cfg (p : Port) : (s.portBootAsked p).cfg = s.cfg := rfl
@[simp] theorem State.portBootAsked_isBooted (p : Port) : (s.portBootAsked p).isBooted = s.isBooted := rfl
@[simp] theorem State.portBootAsked_isPaused (p : Port) : (s.portBootAsked p).isPaused = s.isPaused := rfl
@[simp] theorem State.portBootAsked_waitingForKey (p : Port) : (s.portBootAsked p).waitingForKey = s.waitingForKey := rfl
@[simp] theorem State.portBootAsked_keyTarget (p : Port) : (s.portBootAsked p).keyTarget = s.keyTarget := rfl
@[simp] theorem State.portBootAsked_waitingForRelease (p : Port) : (s.portBootAsked p).waitingForRelease = s.waitingForRelease := rfl
@[simp] theorem State.portBootAsked_heldKey (p : Port) : (s.portBootAsked p).heldKey = s.heldKey := rfl
@[simp] theorem State.portBootAsked_lastError (p : Port) : (s.portBootAsked p).lastError = s.lastError := rfl
@[simp] theorem State.portBootAsked_cycles (p : Port) : (s.portBootAsked p).cycles = s.cycles := rfl
@[simp] theorem State.portBootAsked_frames (p : Port) : (s.portBootAsked p).frames = s.frames := rfl
@[simp] theorem State.portBootAsked_looping (p : Port) : (s.portBootAsked p).looping = s.looping := rfl
@[simp] theorem State.portBootAsked_inRun (p : Port) : (s.portBootAsked p).inRun = s.inRun := rfl
@[simp] theorem State.portBootAsked_commands (p : Port) : (s.portBootAsked p).commands = s.commands := rfl
@[simp] theorem State.portBootAsked_out (p : Port) : (s.portBootAsked p).out = s.out ++ [.portBoot p (s.portBootAnswer p)] := rfl

/-! ### `State.clearScreen` -/

@[simp] theorem State.clearScreen_v : (s.clearScreen).v = s.v := rfl
@[simp] theorem State.clearScreen_i : (s.clearScreen).i = s.i := rfl
@[simp] theorem State.clearScreen_pc : (s.clearScreen).pc = s.pc := rfl
@[simp] theorem State.clearScreen_sp : (s.clearScreen).sp = s.sp := rfl
@[simp] theorem State.clearScreen_stack : (s.clearScreen).stack = s.stack := rfl
@[simp] theorem State.clearScreen_dt : (s.clearScreen).dt = s.dt := rfl
@[simp] theorem State.clearScreen_st : (s.clearScreen).st = s.st := rfl
@[simp] theorem State.clearScreen_mem : (s.clearScreen).mem = s.mem := rfl
@[simp] theorem State.clearScreen_fb : (s.clearScreen).fb = List.replicate s.cfg.fbLen 0 := rfl
@[simp] theorem State.clearScreen_dirty : (s.clearScreen).dirty = true := rfl
@[simp] theorem State.clearScreen_ir : (s.clearScreen).ir = s.ir := rfl
@[simp] theorem State.clearScreen_q : (s.clearScreen).q = s.q := rfl
@[simp] theorem State.clearScreen_cfg : (s.clearScreen).cfg = s.cfg := rfl
@[simp] theorem State.clearScreen_isBooted : (s.clearScreen).isBooted = s.isBooted := rfl
@[simp] theorem State.clearScreen_isPaused : (s.clearScreen).isPaused = s.isPaused := rfl
@[simp] theorem State.clearScreen_waitingForKey : (s.clearScreen).waitingForKey = s.waitingForKey := rfl
@[simp] theorem State.clearScreen_keyTarget : (s.clearScreen).keyTarget = s.keyTarget := rfl
@[simp] theorem State.clearScreen_waitingForRelease : (s.clearScreen).waitingForRelease = s.waitingForRelease := rfl
@[simp] theorem State.clearScreen_heldKey : (s.clearScreen).heldKey = s.heldKey := rfl
@[simp] theorem State.clearScreen_lastError : (s.clearScreen).lastError = s.lastError := rfl
@[simp] theorem State.clearScreen_cycles : (s.clearScreen).cycles = s.cycles := rfl
@[simp] theorem State.clearScreen_frames : (s.clearScreen).frames = s.frames := rfl
@[simp] theorem State.clearScreen_looping : (s.clearScreen).looping = s.looping := rfl
@[simp] theorem State.clearScreen_inRun : (s.clearScreen).inRun = s.inRun := rfl
@[simp] theorem State.clearScreen_commands : (s.clearScreen).commands = s.commands := rfl
@[simp] theorem State.clearScreen_env : (s.clearScreen).env = s.env := rfl
@[simp] theorem State.clearScreen_draws : (s.clearScreen).draws = s.draws := rfl
@[simp] theorem State.clearScreen_out : (s.clearScreen).out = s.out := rfl

/-! ### `State.decayTimers` -/

@[simp] theorem State.decayTimers_v : (s.decayTimers).v = s.v := rfl
@[simp] theorem State.decayTimers_i : (s.decayTimers).i = s.i := rfl
@[simp] theorem State.decayTimers_pc : (s.decayTimers).pc = s.pc := rfl
@[simp] theorem State.decayTimers_sp : (s.decayTimers).sp = s.sp := rfl
@[simp] theorem State.decayTimers_stack : (s.decayTimers).stack = s.stack := rfl
@[simp] theorem State.decayTimers_dt : (s.decayTimers).dt = decay s.dt := rfl
@[simp] theorem State.decayTimers_st : (s.decayTimers).st = decay s.st := rfl
@[simp] theorem State.decayTimers_mem : (s.decayTimers).mem = s.mem := rfl
@[simp] theorem State.decayTimers_fb : (s.decayTimers).fb = s.fb := rfl
@[simp] theorem State.decayTimers_dirty : (s.decayTimers).dirty = s.dirty := rfl
@[simp] theorem State.decayTimers_ir : (s.decayTimers).ir = s.ir := rfl
@[simp] theorem State.decayTimers_q : (s.decayTimers).q = s.q := rfl
@[simp] theorem State.decayTimers_cfg : (s.decayTimers).cfg = s.cfg := rfl
@[simp] theorem State.decayTimers_isBooted : (s.decayTimers).isBooted = s.isBooted := rfl
@[simp] theorem State.decayTimers_isPaused : (s.decayTimers).isPaused = s.isPaused := rfl
@[simp] theorem State.decayTimers_waitingForKey : (s.decayTimers).waitingForKey = s.waitingForKey := rfl
@[simp] theorem State.decayTimers_keyTarget : (s.decayTimers).keyTarget = s.keyTarget := rfl
@[simp] theorem State.decayTimers_waitingForRelease : (s.decayTimers).waitingForRelease = s.waitingForRelease := rfl
@[simp] theorem State.decayTimers_heldKey : (s.decayTimers).heldKey = s.heldKey := rfl
@[simp] theorem State.decayTimers_lastError : (s.decayTimers).lastError = s.lastError := rfl
@[simp] theorem State.decayTimers_cycles : (s.decayTimers).cycles = s.cycles := rfl
@[simp] theorem State.decayTimers_frames : (s.decayTimers).frames = s.frames := rfl
@[simp] theorem State.decayTimers_looping : (s.decayTimers).looping = s.looping := rfl
@[simp] theorem State.decayTimers_inRun : (s.decayTimers).inRun = s.inRun := rfl
@[simp] theorem State.decayTimers_commands : (s.decayTimers).commands = s.commands := rfl
@[simp] theorem State.decayTimers_env : (s.decayTimers).env = s.env := rfl
@[simp] theorem State.decayTimers_draws : (s.decayTimers).draws = s.draws := rfl
@[simp] theorem State.decayTimers_out : (s.decayTimers).out = s.out := rfl

/-! ### `State.countCycle` -/

@[simp] theorem State.countCycle_v : (s.countCycle).v = s.v := rfl
@[simp] theorem State.countCycle_i : (s.countCycle).i = s.i := rfl
@[simp] theorem State.countCycle_pc : (s.countCycle).pc = s.pc := rfl
@[simp] theorem State.countCycle_sp : (s.countCycle).sp = s.sp := rfl
@[simp] theorem State.countCycle_stack : (s.countCycle).stack = s.stack := rfl
@[simp] theorem State.countCycle_dt : (s.countCycle).dt = s.dt := rfl
@[simp] theorem State.countCycle_st : (s.countCycle).st = s.st := rfl
@[simp] theorem State.countCycle_mem : (s.countCycle).mem = s.mem := rfl
@[simp] theorem State.countCycle_fb : (s.countCycle).fb = s.fb := rfl
@[simp] theorem State.countCycle_dirty : (s.countCycle).dirty = s.dirty := rfl
@[simp] theorem State.countCycle_ir : (s.countCycle).ir = s.ir := rfl
@[simp] theorem State.countCycle_q : (s.countCycle).q = s.q := rfl
@[simp] theorem State.countCycle_cfg : (s.countCycle).cfg = s.cfg := rfl
@[simp] theorem State.countCycle_isBooted : (s.countCycle).isBooted = s.isBooted := rfl
@[simp] theorem State.countCycle_isPaused : (s.countCycle).isPaused = s.isPaused := rfl
@[simp] theorem State.countCycle_waitingForKey : (s.countCycle).waitingForKey = s.waitingForKey := rfl
@[simp] theorem State.countCycle_keyTarget : (s.countCycle).keyTarget = s.keyTarget := rfl
@[simp] theorem State.countCycle_waitingForRelease : (s.countCycle).waitingForRelease = s.waitingForRelease := rfl
@[simp] theorem State.countCycle_heldKey : (s.countCycle).heldKey = s.heldKey := rfl
@[simp] theorem State.countCycle_lastError : (s.countCycle).lastError = s.lastError := rfl
@[simp] theorem State.countCycle_cycles : (s.countCycle).cycles = s.cycles + 1 := rfl
@[simp] theorem State.countCycle_frames : (s.countCycle).frames = s.frames := rfl
@[simp] theorem State.countCycle_looping : (s.countCycle).looping = s.looping := rfl
@[simp] theorem State.countCycle_inRun : (s.countCycle).inRun = s.inRun := rfl
@[simp] theorem State.countCycle_commands : (s.countCycle).commands = s.commands := rfl
@[simp] theorem State.countCycle_env : (s.countCycle).env = s.env := rfl
@[simp] theorem State.countCycle_draws : (s.countCycle).draws = s.draws := rfl
@[simp] theorem State.countCycle_out : (s.countCycle).out = s.out ++ [.strobe .afterCycle] := rfl

end Sys2Proof.Machine
end

