-- ==== Sys2Proof/Laws/Ops.lean ====
section
/-! SUPPORT. One lemma per shared operation: everything it can do. -/

namespace Sys2Proof.Machine

variable (s : State)

/-! ### Registers -/

/-- A register read after a register write. -/
theorem State.getV_setV (x r : Nibble) (b : Byte) : (s.setV x b).getV r = if r = x then b else s.getV r := by
  by_cases h : r = x
  · simp [State.getV, h]
  · have h' : x.toNat ≠ r.toNat := fun he => h (BitVec.eq_of_toNat_eq he.symm)
    simp [State.getV, h, Vector.getElem_set_ne _ _ h']

theorem State.getV_setVF (r : Nibble) (b : Byte) : (s.setVF b).getV r = if r = 15#4 then b else s.getV r :=
  s.getV_setV 15#4 r b

@[simp] theorem State.getV_emit (e : Event) (r : Nibble) : (s.emit e).getV r = s.getV r := rfl
@[simp] theorem State.getV_setPc (w : Word) (r : Nibble) : (s.setPc w).getV r = s.getV r := rfl
@[simp] theorem State.getV_advancePc (r : Nibble) : (s.advancePc).getV r = s.getV r := rfl
@[simp] theorem State.getV_skipIf (c : Bool) (r : Nibble) : (s.skipIf c).getV r = s.getV r := rfl
@[simp] theorem State.getV_setI (w : Word) (r : Nibble) : (s.setI w).getV r = s.getV r := rfl
@[simp] theorem State.getV_push (r : Nibble) : (s.push).getV r = s.getV r := rfl
@[simp] theorem State.getV_popTo (w : Word) (r : Nibble) : (s.popTo w).getV r = s.getV r := rfl
@[simp] theorem State.getV_raise (e : Error) (r : Nibble) : (s.raise e).getV r = s.getV r := rfl
@[simp] theorem State.getV_keyPressedAsked (k : Byte) (r : Nibble) : (s.keyPressedAsked k).getV r = s.getV r := rfl
@[simp] theorem State.getV_keyAnyAsked (r : Nibble) : (s.keyAnyAsked).getV r = s.getV r := rfl
@[simp] theorem State.getV_randAsked (r : Nibble) : (s.randAsked).getV r = s.getV r := rfl
@[simp] theorem State.getV_renderAsked (r : Nibble) : (s.renderAsked).getV r = s.getV r := rfl
@[simp] theorem State.getV_portBootAsked (p : Port) (r : Nibble) : (s.portBootAsked p).getV r = s.getV r := rfl
@[simp] theorem State.getV_clearScreen (r : Nibble) : (s.clearScreen).getV r = s.getV r := rfl

/-- Two states with the same sixteen register values have the same register file. -/
theorem State.v_ext {s t : State} (h : ∀ r, t.getV r = s.getV r) : t.v = s.v := by
  apply Vector.ext
  intro k hk
  have := h (BitVec.ofNat 4 k)
  simpa [State.getV, Nat.mod_eq_of_lt (show k < 16 from hk)] using this

/-- A list loaded into the registers from `k` up: only registers change. -/
theorem State.setRegsFrom_eq (k : Nat) (bs : List Byte) :
    s.setRegsFrom k bs = { s with v := (s.setRegsFrom k bs).v } := by
  induction bs generalizing s k with
  | nil => rfl
  | cons b bs ih => rw [State.setRegsFrom, ih]

/-- Which value each register holds after a list is loaded from register `k` up. -/
theorem State.getV_setRegsFrom (k : Nat) (bs : List Byte) (r : Nibble) :
    (s.setRegsFrom k bs).getV r =
      if k ≤ r.toNat ∧ r.toNat < k + bs.length then bs.getD (r.toNat - k) 0 else s.getV r := by
  induction bs generalizing s k with
  | nil => simp [State.setRegsFrom]
  | cons b bs ih =>
    rw [State.setRegsFrom, ih]
    have hr : r.toNat < 16 := r.isLt
    by_cases hk : r.toNat = k
    · simp [State.getV, hk]
    · have hne : k ≠ r.toNat := fun h => hk h.symm
      by_cases hin : k + 1 ≤ r.toNat ∧ r.toNat < k + 1 + bs.length
      · have h2 : k ≤ r.toNat ∧ r.toNat < k + (bs.length + 1) := by omega
        have h3 : r.toNat - k = (r.toNat - (k + 1)) + 1 := by omega
        rw [if_pos hin, List.length_cons, if_pos h2, h3, List.getD_cons_succ]
      · have h2 : ¬(k ≤ r.toNat ∧ r.toNat < k + (bs.length + 1)) := by omega
        rw [if_neg hin, List.length_cons, if_neg h2]
        simp [State.getV, hne]

@[simp] theorem State.length_regsUpTo (x : Nibble) : (s.regsUpTo x).length = x.toNat + 1 := by
  have : x.toNat < 16 := x.isLt
  simp [State.regsUpTo, transferCount]
  omega

/-- The `k`-th byte that `Fx55` stores is `V[k]`. -/
theorem State.getD_regsUpTo {x r : Nibble} (h : r.toNat ≤ x.toNat) : (s.regsUpTo x).getD r.toNat 0 = s.getV r := by
  have hr : r.toNat < 16 := r.isLt
  have hx : r.toNat < x.toNat + 1 := by omega
  simp [State.regsUpTo, transferCount, State.getV, hx, hr, List.getD_eq_getElem?_getD]

@[simp] theorem length_bcdDigits (b : Byte) : (bcdDigits b).length = 3 := rfl

/-! ### Operand steps -/

theorem State.resetVF_eq : s.resetVF = { s with v := s.resetVF.v } := by
  unfold State.resetVF
  split <;> rfl

theorem State.getV_resetVF (r : Nibble) :
    s.resetVF.getV r = if s.vfReset = true ∧ r = 15#4 then 0 else s.getV r := by
  unfold State.resetVF
  split <;> simp_all [State.getV_setVF]

theorem State.loadShiftOperand_eq (x y : Nibble) :
    s.loadShiftOperand x y = { s with v := (s.loadShiftOperand x y).v } := by
  unfold State.loadShiftOperand
  split <;> rfl

theorem State.getV_loadShiftOperand (x y r : Nibble) :
    (s.loadShiftOperand x y).getV r = if s.shiftVy = true ∧ r = x then s.getV y else s.getV r := by
  unfold State.loadShiftOperand
  split <;> simp_all [State.getV_setV]

theorem State.advanceI_eq (x : Nibble) :
    s.advanceI x = { s with i := if s.memAdvI then s.i + BitVec.ofNat 16 (x.toNat + 1) else s.i } := by
  unfold State.advanceI
  split <;> simp_all [State.setI, transferCount]

theorem State.logic_eq (op : Byte → Byte → Byte) (x y : Nibble) :
    s.logic op x y = { s with v := (s.logic op x y).v } := by
  unfold State.logic
  rw [State.resetVF_eq]
  rfl

theorem State.resultThenFlag_eq (x : Nibble) (a b : Byte) :
    s.resultThenFlag x a b = { s with v := (s.resultThenFlag x a b).v } := rfl

theorem State.getV_resultThenFlag (x r : Nibble) (a b : Byte) :
    (s.resultThenFlag x a b).getV r = if r = 15#4 then b else if r = x then a else s.getV r := by
  simp [State.resultThenFlag, State.getV_setVF, State.getV_setV]

theorem State.flagThenShift_eq (x : Nibble) (f g : Byte → Byte) :
    s.flagThenShift x f g = { s with v := (s.flagThenShift x f g).v } := rfl

theorem State.getV_flagThenShift (x r : Nibble) (f g : Byte → Byte) :
    (s.flagThenShift x f g).getV r =
      if r = x then g (if x = 15#4 then f (s.getV x) else s.getV x) else if r = 15#4 then f (s.getV x) else s.getV r := by
  simp [State.flagThenShift, State.getV_setVF, State.getV_setV]

/-! ### Memory access -/

/-- `MemRead` in bounds, or of no byte. -/
theorem State.memRead_ok {a n : Nat} (h : n = 0 ∨ a + n ≤ Config.memSize) :
    s.memRead a n = .ok (Memory.readBytes s.cfg.font s.mem a n) := by
  unfold State.memRead
  rw [if_neg (by omega)]

/-- `MemRead` out of bounds. -/
theorem State.memRead_error {a n : Nat} (h0 : 0 < n) (h : Config.memSize < a + n) :
    s.memRead a n = .error (.memoryBounds a) := by
  unfold State.memRead
  rw [if_pos ⟨h0, h⟩]

/-- `MemWrite` in bounds. -/
theorem State.memWrite_ok {a : Nat} {bs : List Byte} (h : a + bs.length ≤ Config.memSize) :
    s.memWrite a bs = .ok { s with mem := Memory.writeBytes s.cfg.font s.mem a bs } := by
  unfold State.memWrite
  rw [if_neg (by omega)]

/-- `MemWrite` out of bounds. -/
theorem State.memWrite_error {a : Nat} {bs : List Byte} (h : Config.memSize < a + bs.length) :
    s.memWrite a bs = .error (.memoryBounds a) := by
  unfold State.memWrite
  rw [if_pos h]

/-- All that `MemRead` can answer. -/
theorem State.memRead_cases (a n : Nat) :
    (0 < n ∧ Config.memSize < a + n ∧ s.memRead a n = .error (.memoryBounds a)) ∨
      ((n = 0 ∨ a + n ≤ Config.memSize) ∧ s.memRead a n = .ok (Memory.readBytes s.cfg.font s.mem a n)) := by
  by_cases h : 0 < n ∧ Config.memSize < a + n
  · exact .inl ⟨h.1, h.2, s.memRead_error h.1 h.2⟩
  · exact .inr ⟨by omega, s.memRead_ok (by omega)⟩

/-- All that `MemWrite` can answer. -/
theorem State.memWrite_cases (a : Nat) (bs : List Byte) :
    (Config.memSize < a + bs.length ∧ s.memWrite a bs = .error (.memoryBounds a)) ∨
      (a + bs.length ≤ Config.memSize ∧
        s.memWrite a bs = .ok { s with mem := Memory.writeBytes s.cfg.font s.mem a bs }) := by
  by_cases h : Config.memSize < a + bs.length
  · exact .inl ⟨h, s.memWrite_error h⟩
  · exact .inr ⟨by omega, s.memWrite_ok (by omega)⟩

/-! ### Fetch -/

/-- All that `Fetch` can answer. -/
theorem State.fetch_cases :
    (Config.memSize ≤ s.pc.toNat + 1 ∧ s.fetch = .error (.memoryBounds s.pc.toNat)) ∨
      (s.pc.toNat + 1 < Config.memSize ∧
        s.fetch = .ok (s.fetchedWord, { s with ir := s.fetchedWord, pc := s.pc + 2 })) := by
  unfold State.fetch
  split
  · exact .inl ⟨‹_›, rfl⟩
  · exact .inr ⟨by omega, rfl⟩

end Sys2Proof.Machine
end

