-- ==== Sys2Proof/Laws/PerInstr.lean ====
section
/-! SUPPORT. A statement about every instruction as syntax, one lemma per constructor: its word selects the row of the
opcode map it stands in (spec/30_encoding.md R97). -/

namespace Sys2Proof.Laws.EncodeRow

/-- The word of an instruction selects its row: `w and mask == match`. -/
def Statement (i : Instr) : Prop := encode i &&& rowMask i = rowMatch i

/-! ### The mask of each format keeps exactly the fixed fields -/

theorem packNnn_and (h : Nibble) (nnn : Addr) : packNnn h nnn &&& 0xF000#16 = packNnn h 0#12 := by
  apply BitVec.eq_of_getLsbD_eq
  intro i hi
  rw [BitVec.getLsbD_and, getLsbD_packNnn, getLsbD_packNnn]
  interval_cases i <;> simp

theorem packXkk_and_F000 (h x : Nibble) (kk : Byte) : packXkk h x kk &&& 0xF000#16 = packXkk h 0#4 0#8 := by
  apply BitVec.eq_of_getLsbD_eq
  intro i hi
  rw [BitVec.getLsbD_and, getLsbD_packXkk, getLsbD_packXkk]
  interval_cases i <;> simp

theorem packXkk_and_F0FF (h x : Nibble) (kk : Byte) : packXkk h x kk &&& 0xF0FF#16 = packXkk h 0#4 kk := by
  apply BitVec.eq_of_getLsbD_eq
  intro i hi
  rw [BitVec.getLsbD_and, getLsbD_packXkk, getLsbD_packXkk]
  interval_cases i <;> simp

theorem packXyn_and_F000 (h x y n : Nibble) : packXyn h x y n &&& 0xF000#16 = packXyn h 0#4 0#4 0#4 := by
  apply BitVec.eq_of_getLsbD_eq
  intro i hi
  rw [BitVec.getLsbD_and, getLsbD_packXyn, getLsbD_packXyn]
  interval_cases i <;> simp

theorem packXyn_and_F00F (h x y n : Nibble) : packXyn h x y n &&& 0xF00F#16 = packXyn h 0#4 0#4 n := by
  apply BitVec.eq_of_getLsbD_eq
  intro i hi
  rw [BitVec.getLsbD_and, getLsbD_packXyn, getLsbD_packXyn]
  interval_cases i <;> simp

/-! ### One lemma per constructor -/

theorem cls : Statement .cls := by unfold Statement; decide
theorem ret : Statement .ret := by unfold Statement; decide
theorem sys (nnn : Addr) : Statement (.sys nnn) := packNnn_and 0x0#4 nnn
theorem jp (nnn : Addr) : Statement (.jp nnn) := packNnn_and 0x1#4 nnn
theorem call (nnn : Addr) : Statement (.call nnn) := packNnn_and 0x2#4 nnn
theorem seImm (x : Nibble) (kk : Byte) : Statement (.seImm x kk) := packXkk_and_F000 0x3#4 x kk
theorem sneImm (x : Nibble) (kk : Byte) : Statement (.sneImm x kk) := packXkk_and_F000 0x4#4 x kk
theorem seReg (x y : Nibble) : Statement (.seReg x y) := packXyn_and_F00F 0x5#4 x y 0x0#4
theorem ldImm (x : Nibble) (kk : Byte) : Statement (.ldImm x kk) := packXkk_and_F000 0x6#4 x kk
theorem addImm (x : Nibble) (kk : Byte) : Statement (.addImm x kk) := packXkk_and_F000 0x7#4 x kk
theorem ldReg (x y : Nibble) : Statement (.ldReg x y) := packXyn_and_F00F 0x8#4 x y 0x0#4
theorem or (x y : Nibble) : Statement (.or x y) := packXyn_and_F00F 0x8#4 x y 0x1#4
theorem and (x y : Nibble) : Statement (.and x y) := packXyn_and_F00F 0x8#4 x y 0x2#4
theorem xor (x y : Nibble) : Statement (.xor x y) := packXyn_and_F00F 0x8#4 x y 0x3#4
theorem addReg (x y : Nibble) : Statement (.addReg x y) := packXyn_and_F00F 0x8#4 x y 0x4#4
theorem sub (x y : Nibble) : Statement (.sub x y) := packXyn_and_F00F 0x8#4 x y 0x5#4
theorem shr (x y : Nibble) : Statement (.shr x y) := packXyn_and_F00F 0x8#4 x y 0x6#4
theorem subn (x y : Nibble) : Statement (.subn x y) := packXyn_and_F00F 0x8#4 x y 0x7#4
theorem shl (x y : Nibble) : Statement (.shl x y) := packXyn_and_F00F 0x8#4 x y 0xE#4
theorem sneReg (x y : Nibble) : Statement (.sneReg x y) := packXyn_and_F00F 0x9#4 x y 0x0#4
theorem ldI (nnn : Addr) : Statement (.ldI nnn) := packNnn_and 0xA#4 nnn
theorem jpV0 (nnn : Addr) : Statement (.jpV0 nnn) := packNnn_and 0xB#4 nnn
theorem rnd (x : Nibble) (kk : Byte) : Statement (.rnd x kk) := packXkk_and_F000 0xC#4 x kk
theorem drw (x y n : Nibble) : Statement (.drw x y n) := packXyn_and_F000 0xD#4 x y n
theorem skp (x : Nibble) : Statement (.skp x) := packXkk_and_F0FF 0xE#4 x 0x9E#8
theorem sknp (x : Nibble) : Statement (.sknp x) := packXkk_and_F0FF 0xE#4 x 0xA1#8
theorem ldVxDt (x : Nibble) : Statement (.ldVxDt x) := packXkk_and_F0FF 0xF#4 x 0x07#8
theorem ldVxK (x : Nibble) : Statement (.ldVxK x) := packXkk_and_F0FF 0xF#4 x 0x0A#8
theorem ldDtVx (x : Nibble) : Statement (.ldDtVx x) := packXkk_and_F0FF 0xF#4 x 0x15#8
theorem ldStVx (x : Nibble) : Statement (.ldStVx x) := packXkk_and_F0FF 0xF#4 x 0x18#8
theorem addI (x : Nibble) : Statement (.addI x) := packXkk_and_F0FF 0xF#4 x 0x1E#8
theorem ldF (x : Nibble) : Statement (.ldF x) := packXkk_and_F0FF 0xF#4 x 0x29#8
theorem ldB (x : Nibble) : Statement (.ldB x) := packXkk_and_F0FF 0xF#4 x 0x33#8
theorem ldMemVx (x : Nibble) : Statement (.ldMemVx x) := packXkk_and_F0FF 0xF#4 x 0x55#8
theorem ldVxMem (x : Nibble) : Statement (.ldVxMem x) := packXkk_and_F0FF 0xF#4 x 0x65#8

end Sys2Proof.Laws.EncodeRow
end

