-- ==== Sys2Proof/Laws/Scheduler.lean ====
section
/-! SUPPORT. What each part of the scheduler can do: the fields it may change, and the ways a tick and a step can end. -/

namespace Sys2Proof.Machine

variable (s : State)

/-! ### The parts of a tick -/

/-- A timer one frame later (spec/48_scheduler.md R261). -/
theorem toNat_decay (t : Byte) : (decay t).toNat = t.toNat - 1 := by
  have := t.isLt
  unfold decay
  split
  · rw [BitVec.toNat_sub]
    simp
    omega
  · simp
    omega

theorem State.endTick_eq (done : Bool) (err : Option Error) :
    s.endTick done err =
      { s with
        looping := s.looping && !(done || err.isSome)
        inRun := s.inRun && !(done || err.isSome)
        out := s.out ++ [.tickResult done err] } := rfl

/-- A poll of the key wait writes the target register, the fields of the wait and the record of the question. -/
theorem State.keyWaitStep_eq :
    s.keyWaitStep =
      { s with
        v := s.keyWaitStep.v
        heldKey := s.keyWaitStep.heldKey
        waitingForKey := s.keyWaitStep.waitingForKey
        waitingForRelease := s.keyWaitStep.waitingForRelease
        env := s.keyWaitStep.env
        draws := s.keyWaitStep.draws
        out := s.keyWaitStep.out } := by
  unfold State.keyWaitStep
  split
  · split <;> rfl
  · split <;> rfl

/-- A frame boundary decays the timers and renders; it writes nothing else of the core. -/
theorem State.frameBoundary_eq :
    s.frameBoundary =
      { s with
        dt := decay s.dt
        st := decay s.st
        dirty := s.frameBoundary.dirty
        frames := s.frameBoundary.frames
        lastError := s.frameBoundary.lastError
        env := s.frameBoundary.env
        draws := s.frameBoundary.draws
        out := s.frameBoundary.out } := by
  unfold State.frameBoundary State.pushFrame State.strobeBuzzer
  split
  · split
    · split <;> rfl
    · rfl
  · split
    · split <;> rfl
    · rfl

/-- The error a frame boundary leaves: the one stored before, or that of a failed render. -/
theorem State.frameBoundary_lastError :
    s.frameBoundary.lastError = s.lastError ∨ ∃ f, s.frameBoundary.lastError = some (.displayFailure f) := by
  unfold State.frameBoundary State.pushFrame State.strobeBuzzer
  split
  · split
    · split
      · exact .inl rfl
      · exact .inr ⟨_, rfl⟩
    · exact .inl rfl
  · split
    · split
      · exact .inl rfl
      · exact .inr ⟨_, rfl⟩
    · exact .inl rfl

/-- What the rest of a tick after its instruction may change: the timers, the render flag, the counters, the error, the
Loop and the run, the record of questions and outputs. -/
theorem State.endCycle_eq :
    s.endCycle =
      { s with
        dt := s.endCycle.dt
        st := s.endCycle.st
        dirty := s.endCycle.dirty
        lastError := s.endCycle.lastError
        cycles := s.endCycle.cycles
        frames := s.endCycle.frames
        looping := s.endCycle.looping
        inRun := s.endCycle.inRun
        env := s.endCycle.env
        draws := s.endCycle.draws
        out := s.endCycle.out } := by
  have h : ∀ u : State, u.boundaryIfDue = u ∨ u.boundaryIfDue = u.frameBoundary := by
    intro u
    unfold State.boundaryIfDue
    split
    · exact .inr rfl
    · exact .inl rfl
  unfold State.endCycle
  split
  · rfl
  · unfold State.afterInstruction
    obtain h | h := h s.countCycle
    · rw [h]
      split <;> rfl
    · rw [h, State.frameBoundary_eq]
      split <;> rfl

/-- The error the rest of a tick leaves: the instruction's, or that of a failed render. -/
theorem State.endCycle_lastError :
    s.endCycle.lastError = s.lastError ∨ ∃ f, s.endCycle.lastError = some (.displayFailure f) := by
  have hb : s.countCycle.boundaryIfDue.lastError = s.lastError ∨
      ∃ f, s.countCycle.boundaryIfDue.lastError = some (.displayFailure f) := by
    unfold State.boundaryIfDue
    split
    · exact s.countCycle.frameBoundary_lastError
    · exact .inl rfl
  unfold State.endCycle
  split
  · exact .inl rfl
  · unfold State.afterInstruction
    split <;> exact hb

/-- A returning tick puts its result out last; done or an error ends the Loop. -/
theorem State.endTick_result (done : Bool) (err : Option Error) :
    (s.endTick done err).out.getLast? = some (.tickResult done err) ∧
      (s.endTick done err).looping = (s.looping && !(done || err.isSome)) := by
  simp [State.endTick_eq]

/-- The rest of a tick ends by returning a result. -/
theorem State.endCycle_result :
    ∃ done err, s.endCycle.out.getLast? = some (.tickResult done err) ∧
      s.endCycle.looping = (s.looping && !(done || err.isSome)) := by
  have hb : s.countCycle.boundaryIfDue.looping = s.looping := by
    unfold State.boundaryIfDue
    split
    · rw [State.frameBoundary_eq]; rfl
    · rfl
  unfold State.endCycle
  split
  · exact ⟨_, _, State.endTick_result _ _ _⟩
  · unfold State.afterInstruction
    split
    · exact ⟨_, _, (State.endTick_result ..).1, (State.endTick_result ..).2.trans (by rw [hb])⟩
    · exact ⟨_, _, (State.endTick_result ..).1, (State.endTick_result ..).2.trans (by rw [State.emit_looping, hb])⟩

/-! ### The ways a tick and a step can end -/

/-- A tick that answers a next state: before Boot, halted, paused, in a key wait, or a cycle. -/
theorem tick_cases {bypass : Bool} {s t : State} (h : tick bypass s = .next t) :
    (s.isBooted = false ∧ t = s.tickNotBooted) ∨
    (s.isBooted = true ∧ ∃ e, s.lastError = some e ∧ t = s.endTick false (some e)) ∨
    (s.isBooted = true ∧ s.lastError = none ∧ s.isPaused = true ∧ bypass = false ∧
      t = (s.emit (.strobe .beforeFrame)).endTick false none) ∨
    (s.isBooted = true ∧ s.lastError = none ∧ (s.waitingForKey = true ∨ s.waitingForRelease = true) ∧
      t = ((s.emit (.strobe .beforeFrame)).keyWaitStep.emit (.strobe .afterFrame)).endTick false none) ∨
    (s.isBooted = true ∧ s.lastError = none ∧ s.waitingForKey = false ∧ s.waitingForRelease = false ∧
      cycle ((s.emit (.strobe .beforeFrame)).emit (.strobe .beforeCycle)) = .next t) := by
  unfold tick at h
  split at h
  · next hb => exact .inl ⟨by simpa using hb, by cases h; rfl⟩
  · next hb =>
    have hb' : s.isBooted = true := by simpa using hb
    split at h
    · next e he => exact .inr (.inl ⟨hb', e, he, by cases h; rfl⟩)
    · next he =>
      split at h
      · next hp =>
        have hp' : s.isPaused = true ∧ bypass = false := by simpa using hp
        exact .inr (.inr (.inl ⟨hb', he, hp'.1, hp'.2, by cases h; rfl⟩))
      · split at h
        · next hw => exact .inr (.inr (.inr (.inl ⟨hb', he, by simpa using hw, by cases h; rfl⟩)))
        · next hw =>
          have hw' : s.waitingForKey = false ∧ s.waitingForRelease = false := by simpa using hw
          exact .inr (.inr (.inr (.inr ⟨hb', he, hw'.1, hw'.2, h⟩)))

/-- A cycle that answers a next state: the fetch failed, the word is no instruction, or the instruction ran. -/
theorem cycle_cases {s t : State} (h : cycle s = .next t) :
    (Config.memSize ≤ s.pc.toNat + 1 ∧
      t = (s.raise (.memoryBounds s.pc.toNat)).endTick false (some (.memoryBounds s.pc.toNat))) ∨
    (s.pc.toNat + 1 < Config.memSize ∧
      ∃ u, execute s.fetchedWord { s with ir := s.fetchedWord, pc := s.pc + 2 } = .next u ∧ t = u.endCycle) := by
  unfold cycle at h
  obtain ⟨hb, hf⟩ | ⟨hb, hf⟩ := s.fetch_cases
  · rw [hf] at h
    exact .inl ⟨hb, by cases h; rfl⟩
  · rw [hf] at h
    dsimp only at h
    split at h
    · next u hu => exact .inr ⟨hb, u, hu, by cases h; rfl⟩
    · cases h
    · cases h

/-- Executing a word that answers a next state: the instruction it selects, or `UnknownOpcode`. -/
theorem execute_cases {op : Word} {s u : State} (h : execute op s = .next u) :
    (∃ i, decodeWord op = .ok i ∧ exec i s = .next u) ∨ u = s.raise (.unknownOpcode op s.pc) := by
  unfold execute at h
  split at h
  · next i hi => exact .inl ⟨i, hi, h⟩
  · exact .inr (by cases h; rfl)

/-- A step that answers a next state starts from a legal configuration and takes a command, ticks, or does nothing. -/
theorem step_cases {s t : State} (h : step s = .next t) :
    s.cfg.ok = true ∧
      ((∃ c cs, s.commands = c :: cs ∧ command c { s with commands := cs, out := [] } = .next t) ∨
        (s.commands = [] ∧ s.looping = true ∧ tick false { s with out := [] } = .next t) ∨
        (s.commands = [] ∧ s.looping = false ∧ t = { s with out := [] })) := by
  unfold step advance at h
  split at h
  · next hok =>
    refine ⟨hok, ?_⟩
    split at h
    · next c cs hc => exact .inl ⟨c, cs, hc, h⟩
    · next hc =>
      split at h
      · next hl => exact .inr (.inl ⟨hc, hl, h⟩)
      · next hl => exact .inr (.inr ⟨hc, by simpa using hl, by cases h; rfl⟩)
  · cases h

/-! ### The steps that are ticks -/

/-- A step that is a tick: the Loop's, or one that a command forces, the command then taken. -/
theorem State.Issued.step_eq {s : State} {cs : List Command} (h : s.Issued cs) :
    step s = tick (decide (s.commands ≠ [])) { s with commands := cs, out := [] } := by
  obtain ⟨hok, ⟨hc, rfl, hl⟩ | hc | hc⟩ := h
  · simp [step, advance, hok, hc, hl]
  · simp [step, advance, hok, hc, command]
  · simp [step, advance, hok, hc, command]

/-- A tick of a booted core with no error that is not idle: a poll of the key wait, or a cycle. -/
theorem State.Ticking.step_eq {s : State} {cs : List Command} (h : s.Ticking cs) :
    step s =
      if s.waitingForKey || s.waitingForRelease then
        .next
          ((({ s with commands := cs, out := [.strobe .beforeFrame] } : State).keyWaitStep.emit (.strobe .afterFrame)).endTick
            false none)
      else cycle { s with commands := cs, out := [.strobe .beforeFrame, .strobe .beforeCycle] } := by
  obtain ⟨hi, hb, he, hp⟩ := h
  rw [hi.step_eq]
  have hp' : (s.isPaused && !decide (s.commands ≠ [])) = false := by
    obtain hp | hp := hp <;> simp [hp]
  simp only [tick, hb, he, hp', Bool.not_true, Bool.false_eq_true, if_false]
  rfl

/-- A tick that fetches is a cycle. -/
theorem State.Ready.step_eq {s : State} {cs : List Command} (h : s.Ready cs) :
    step s = cycle { s with commands := cs, out := [.strobe .beforeFrame, .strobe .beforeCycle] } := by
  rw [h.1.step_eq, h.2.1, h.2.2]
  rfl

end Sys2Proof.Machine
end

