-- ==== Sys2Proof/Laws/Screen.lean ====
section
/-! SUPPORT. The screen engine keeps the framebuffer's length, and what a draw can change. -/

namespace Sys2Proof.Machine

@[simp] theorem length_xorByte (fb : List Byte) (b : Nat) (m : Byte) : (xorByte fb b m).length = fb.length := by
  simp [xorByte]

/-- A byte after a mask is XORed into byte `b`. -/
theorem getD_xorByte {fb : List Byte} {b : Nat} (hb : b < fb.length) (m : Byte) (k : Nat) :
    (xorByte fb b m).getD k 0 = if k = b then fb.getD k 0 ^^^ m else fb.getD k 0 := by
  by_cases h : k = b
  · subst h
    simp [xorByte, hb, List.getD_eq_getElem?_getD]
  · have h' : b ≠ k := fun e => h e.symm
    simp [xorByte, h, h', List.getD_eq_getElem?_getD]

@[simp] theorem length_blitAt (rowBytes row off : Nat) (b : Byte) (fb : List Byte) :
    (blitAt rowBytes row off b fb).1.length = fb.length := by
  unfold blitAt
  dsimp only
  split <;> simp

@[simp] theorem length_blit (c : Configuration) (xc yc b : Byte) (fb : List Byte) :
    (blit c xc yc b fb).1.length = fb.length := length_blitAt ..

@[simp] theorem length_drawRows (c : Configuration) (cx cy : Byte) (r : Nat) (bs fb : List Byte) :
    (drawRows c cx cy r bs fb).1.length = fb.length := by
  induction bs generalizing r fb with
  | nil => rfl
  | cons b bs ih => simp [drawRows, ih]

/-- A draw changes the framebuffer, `dirty` and VF only. -/
theorem State.draw_eq (s : State) (cx cy : Byte) (bs : List Byte) :
    s.draw cx cy bs =
      { s with
        fb := (drawRows s.cfg cx cy 0 bs s.fb).1
        dirty := s.dirty || !bs.isEmpty
        v := s.v.set 15 (flagByte (drawRows s.cfg cx cy 0 bs s.fb).2) } := rfl

end Sys2Proof.Machine
end

