-- ==== Sys2Proof/Tests/Slice0.lean ====
section
/-! SUPPORT. Tests. Expected values are those of spec/95_test_vectors.md and of the examples in the instruction rules; the
`hyp` theorems show that the hypotheses of a statement are met. -/

namespace Sys2Proof.Tests

open Sys2Proof.Machine

/-! ### Helpers -/

/-- The next state of an outcome. -/
def nextOf : Host.Outcome State Fault Refusal → Option State
  | .next t => some t
  | .fault _ => none
  | .refused _ => none

/-- What is observed of the next state. -/
def seen {α : Type} (o : Host.Outcome State Fault Refusal) (f : State → α) : Option α := (nextOf o).map f

/-- The reset state with registers V0, V1, ... set. -/
def regs (bs : List Byte) : State := State.reset.setRegsFrom 0 bs

/-- The same with VF set too. -/
def regsVF (bs : List Byte) (vf : Byte) : State := (regs bs).setV 15#4 vf

/-- The quirks changed. -/
def quirks (s : State) (q : BitVec 5) : State := { s with q := q }

/-- The reset state with word `w` where the next step fetches it. -/
def running (w : Word) : State := State.reset.placeWord w

/-- One step of a state with word `w` where it fetches next. -/
def stepWord (s : State) (w : Word) : Host.Outcome State Fault Refusal := step (s.placeWord w)

/-- An 8 by 8 screen. -/
def smallScreen : Configuration := { Configuration.default with screenW := 8, screenH := 8 }

/-! ### Well-formedness: the ill-formed terms are refused -/

theorem test_wf_refuses_cls_word : (Instr.sys 0x0E0#12).wf = false := by decide
theorem test_wf_refuses_ret_word : (Instr.sys 0x0EE#12).wf = false := by decide
theorem test_wf_accepts_sys : (Instr.sys 0x1E0#12).wf = true ∧ (Instr.sys 0x000#12).wf = true := by decide

/-! ### Decoding: one word per constructor, written out from spec/30_encoding.md R97 -/

theorem test_decode_family0 :
    decodeWord 0x00E0#16 = .ok .cls ∧ decodeWord 0x00EE#16 = .ok .ret ∧ decodeWord 0x00E1#16 = .ok (.sys 0x0E1#12) ∧
      decodeWord 0x01E0#16 = .ok (.sys 0x1E0#12) := ⟨rfl, rfl, rfl, rfl⟩

theorem test_decode_jumps :
    decodeWord 0x1ABC#16 = .ok (.jp 0xABC#12) ∧ decodeWord 0x2210#16 = .ok (.call 0x210#12) ∧
      decodeWord 0xB2F0#16 = .ok (.jpV0 0x2F0#12) := ⟨rfl, rfl, rfl⟩

theorem test_decode_skips :
    decodeWord 0x3A80#16 = .ok (.seImm 0xA#4 0x80#8) ∧ decodeWord 0x4B10#16 = .ok (.sneImm 0xB#4 0x10#8) ∧
      decodeWord 0x5AB0#16 = .ok (.seReg 0xA#4 0xB#4) ∧ decodeWord 0x9AB0#16 = .ok (.sneReg 0xA#4 0xB#4) :=
  ⟨rfl, rfl, rfl, rfl⟩

theorem test_decode_immediates :
    decodeWord 0x6FAB#16 = .ok (.ldImm 0xF#4 0xAB#8) ∧ decodeWord 0x7204#16 = .ok (.addImm 0x2#4 0x04#8) ∧
      decodeWord 0xC10F#16 = .ok (.rnd 0x1#4 0x0F#8) := ⟨rfl, rfl, rfl⟩

theorem test_decode_family8 :
    decodeWord 0x8AB0#16 = .ok (.ldReg 0xA#4 0xB#4) ∧ decodeWord 0x8AB1#16 = .ok (.or 0xA#4 0xB#4) ∧
      decodeWord 0x8AB2#16 = .ok (.and 0xA#4 0xB#4) ∧ decodeWord 0x8AB3#16 = .ok (.xor 0xA#4 0xB#4) ∧
      decodeWord 0x8AB4#16 = .ok (.addReg 0xA#4 0xB#4) ∧ decodeWord 0x8AB5#16 = .ok (.sub 0xA#4 0xB#4) ∧
      decodeWord 0x8AB6#16 = .ok (.shr 0xA#4 0xB#4) ∧ decodeWord 0x8AB7#16 = .ok (.subn 0xA#4 0xB#4) ∧
      decodeWord 0x8ABE#16 = .ok (.shl 0xA#4 0xB#4) := ⟨rfl, rfl, rfl, rfl, rfl, rfl, rfl, rfl, rfl⟩

theorem test_decode_index_and_screen :
    decodeWord 0xA300#16 = .ok (.ldI 0x300#12) ∧ decodeWord 0xDABC#16 = .ok (.drw 0xA#4 0xB#4 0xC#4) := ⟨rfl, rfl⟩

theorem test_decode_familyE :
    decodeWord 0xE39E#16 = .ok (.skp 0x3#4) ∧ decodeWord 0xE3A1#16 = .ok (.sknp 0x3#4) := ⟨rfl, rfl⟩

theorem test_decode_familyF :
    decodeWord 0xF107#16 = .ok (.ldVxDt 0x1#4) ∧ decodeWord 0xF50A#16 = .ok (.ldVxK 0x5#4) ∧
      decodeWord 0xF015#16 = .ok (.ldDtVx 0x0#4) ∧ decodeWord 0xF018#16 = .ok (.ldStVx 0x0#4) ∧
      decodeWord 0xF21E#16 = .ok (.addI 0x2#4) ∧ decodeWord 0xF129#16 = .ok (.ldF 0x1#4) ∧
      decodeWord 0xF033#16 = .ok (.ldB 0x0#4) ∧ decodeWord 0xFF55#16 = .ok (.ldMemVx 0xF#4) ∧
      decodeWord 0xF265#16 = .ok (.ldVxMem 0x2#4) := ⟨rfl, rfl, rfl, rfl, rfl, rfl, rfl, rfl, rfl⟩

/-- The illegal words of T8. -/
theorem test_decode_unknown :
    decodeWord 0x5AB1#16 = .error (.unknown 0x5AB1#16) ∧ decodeWord 0x8AB8#16 = .error (.unknown 0x8AB8#16) ∧
      decodeWord 0x8ABF#16 = .error (.unknown 0x8ABF#16) ∧ decodeWord 0x9AB1#16 = .error (.unknown 0x9AB1#16) ∧
      decodeWord 0xE09F#16 = .error (.unknown 0xE09F#16) ∧ decodeWord 0xF008#16 = .error (.unknown 0xF008#16) ∧
      decodeWord 0xF075#16 = .error (.unknown 0xF075#16) ∧ decodeWord 0xFFFF#16 = .error (.unknown 0xFFFF#16) :=
  ⟨rfl, rfl, rfl, rfl, rfl, rfl, rfl, rfl⟩

theorem test_decode_truncated : decodeBytes [0x60#8] = .error .truncated := rfl

/-- The table's numbering: bit 0 is the least significant bit of the word. -/
theorem test_decodeTableWord : decodeTableWord 16 0x7204 = some (.addImm 0x2#4 0x04#8) := rfl

/-- The step after reset runs the word placed where it fetches (scenario A, first instruction). -/
theorem test_withFetchWord :
    seen (step (State.reset.withFetchWord 16 0x6080)) (fun t => (t.getV 0#4, t.pc, t.ir)) =
      some (0x80#8, 0x202#16, 0x6080#16) := by decide

/-! ### Reset (spec/10_state.md R50) -/

/-- Reset is LoadProgram of an empty program on a core booted with `Boot(true)`, the Loop on. -/
theorem test_reset_is_loadProgram :
    { ({ State.powerOn Config.defaultQuirks Configuration.default with isBooted := true, looping := true }).loadProgram []
      with out := [] } = State.reset := by decide +kernel

/-! ### Control transfer (T1) -/

theorem test_jp : seen (exec (.jp 0xABC#12) State.reset) (·.pc) = some 0x0ABC#16 := by decide
/-- T1.4. -/
theorem test_call :
    seen (stepWord { State.reset with pc := 0x204#16 } 0x2210#16) (fun t => (t.stack[0], t.sp, t.pc)) =
      some (0x0206#16, 1#8, 0x0210#16) := by decide
/-- T1.6: the sixteenth nested call. -/
theorem test_call_last_slot :
    seen (stepWord { State.reset with sp := 15#8 } 0x2300#16) (fun t => (t.stack[15], t.sp, t.pc)) =
      some (0x0202#16, 16#8, 0x0300#16) := by decide
/-- T1.7: the error is raised with only the fetch's writes done. -/
theorem test_ret_underflow :
    seen (stepWord State.reset 0x00EE#16) (fun t => (t.lastError, t.sp, t.pc, t.cycles)) =
      some (some .stackUnderflow, 0#8, 0x0202#16, 0) := by decide
/-- T1.8: the popped slot keeps its value. -/
theorem test_ret :
    seen (exec .ret { State.reset with sp := 1#8, stack := State.reset.stack.set 0 0x0206#16 })
      (fun t => (t.sp, t.pc, t.stack[0])) = some (0#8, 0x0206#16, 0x0206#16) := by decide
/-- T1.10. -/
theorem test_jpV0_register :
    seen (exec (.jpV0 0x300#12) (quirks (regs [0x04, 0, 0, 0x10]) 0b10111#5)) (·.pc) = some 0x0310#16 := by decide
/-- T1.11: the sum is not masked and the tick reports done. -/
theorem test_jpV0_past_the_end :
    seen (stepWord (regs [0xFF]) 0xBFFF#16) (fun t => (t.pc, t.out.getLast?)) =
      some (0x10FE#16, some (.tickResult true none)) := by decide
/-- T1.13: not a screen clear. -/
theorem test_sys : seen (exec (.sys 0x1E0#12) State.reset) (·.dirty) = some false := by decide
theorem test_sys_hook_refused :
    exec (.sys 0x123#12) { State.reset with cfg := { State.reset.cfg with mroutine := true } } =
      .refused (.machineRoutineInstalled 0x123#12) := rfl

/-! ### Skips (T2) -/

theorem test_seImm : seen (exec (.seImm 0#4 0x80#8) (regs [0x80])) (·.pc) = some 0x0202#16 := by decide
theorem test_sneImm : seen (exec (.sneImm 0#4 0x80#8) (regs [0x80])) (·.pc) = some 0x0200#16 := by decide
theorem test_seReg : seen (exec (.seReg 0#4 1#4) (regs [0x80, 0x10])) (·.pc) = some 0x0200#16 := by decide
theorem test_sneReg : seen (exec (.sneReg 0#4 1#4) (regs [0x80, 0x10])) (·.pc) = some 0x0202#16 := by decide
/-- T2.11: a taken skip at 0xFFC reports done. -/
theorem test_skip_past_the_end :
    seen (stepWord { State.reset with pc := 0xFFC#16 } 0x3000#16) (fun t => (t.pc, t.out.getLast?)) =
      some (0x1000#16, some (.tickResult true none)) := by decide

/-! ### Registers (T3) -/

theorem test_ldImm : seen (exec (.ldImm 15#4 0xAB#8) State.reset) (·.getV 15#4) = some 0xAB#8 := by decide
/-- T3.2. -/
theorem test_addImm_no_carry :
    seen (exec (.addImm 0#4 0x01#8) (regsVF [0xFF] 9)) (fun t => (t.getV 0#4, t.getV 15#4)) = some (0x00#8, 0x09#8) := by
  decide
theorem test_ldReg : seen (exec (.ldReg 0#4 1#4) (regs [0, 0x10])) (·.getV 0#4) = some 0x10#8 := by decide
/-- T3.5 and T3.6. -/
theorem test_or :
    seen (exec (.or 0#4 1#4) (regsVF [0xF0, 0x0F] 1)) (fun t => (t.getV 0#4, t.getV 15#4)) = some (0xFF#8, 0#8) ∧
      seen (exec (.or 0#4 1#4) (quirks (regsVF [0xF0, 0x0F] 1) 0)) (·.getV 15#4) = some 1#8 := by decide
/-- T3.39 and T3.41: the flag is cleared before the operands are read. -/
theorem test_or_aliased :
    seen (exec (.or 0#4 15#4) (regsVF [0x10] 3)) (·.getV 0#4) = some 0x10#8 ∧
      seen (exec (.or 15#4 1#4) (regsVF [0, 0x30] 3)) (·.getV 15#4) = some 0x30#8 := by decide
/-- T3.7 and T3.42. -/
theorem test_and :
    seen (exec (.and 0#4 1#4) (regsVF [0xF3, 0x3F] 7)) (·.getV 0#4) = some 0x33#8 ∧
      seen (exec (.and 0#4 15#4) (regsVF [0xFF] 0xFF)) (·.getV 0#4) = some 0#8 := by decide
/-- T3.8. -/
theorem test_xor :
    seen (exec (.xor 0#4 1#4) (regsVF [0xFF, 0x0F] 7)) (fun t => (t.getV 0#4, t.getV 15#4)) = some (0xF0#8, 0#8) := by
  decide
/-- T3.9 and T3.10. -/
theorem test_addReg :
    seen (exec (.addReg 0#4 1#4) (regs [0xFF, 0x01])) (fun t => (t.getV 0#4, t.getV 15#4)) = some (0#8, 1#8) ∧
      seen (exec (.addReg 0#4 1#4) (regsVF [0x10, 0x20] 1)) (fun t => (t.getV 0#4, t.getV 15#4)) = some (0x30#8, 0#8) := by
  decide
/-- T3.31 and T3.32. -/
theorem test_addReg_aliased :
    seen (exec (.addReg 15#4 1#4) (regsVF [0, 0x20] 0xF0)) (·.getV 15#4) = some 1#8 ∧
      seen (exec (.addReg 0#4 15#4) (regsVF [0xFF] 1)) (fun t => (t.getV 0#4, t.getV 15#4)) = some (0#8, 1#8) := by
  decide
/-- T3.11b and T3.11c. -/
theorem test_sub :
    seen (exec (.sub 0#4 1#4) (regs [3, 5])) (fun t => (t.getV 0#4, t.getV 15#4)) = some (0xFE#8, 0#8) ∧
      seen (exec (.sub 0#4 1#4) (regs [5, 5])) (fun t => (t.getV 0#4, t.getV 15#4)) = some (0#8, 1#8) := by decide
/-- T3.12 and T3.12b. -/
theorem test_subn :
    seen (exec (.subn 0#4 1#4) (regs [3, 5])) (fun t => (t.getV 0#4, t.getV 15#4)) = some (2#8, 1#8) ∧
      seen (exec (.subn 0#4 1#4) (regs [5, 3])) (fun t => (t.getV 0#4, t.getV 15#4)) = some (0xFE#8, 0#8) := by
  decide
/-- T3.13 and T3.14. -/
theorem test_shr :
    seen (exec (.shr 1#4 2#4) (regs [0, 0x05, 0x0A])) (fun t => (t.getV 1#4, t.getV 15#4)) = some (0x05#8, 0#8) ∧
      seen (exec (.shr 1#4 2#4) (quirks (regs [0, 0x05, 0x0A]) 0)) (fun t => (t.getV 1#4, t.getV 15#4)) =
        some (0x02#8, 1#8) := by decide
/-- T3.35: the flag is what is shifted. -/
theorem test_shr_vf : seen (exec (.shr 15#4 0#4) (quirks (regsVF [] 3) 0)) (·.getV 15#4) = some 0#8 := by decide
/-- T3.15 and T3.16. -/
theorem test_shl :
    seen (exec (.shl 1#4 2#4) (regs [0, 0x81, 0x40])) (fun t => (t.getV 1#4, t.getV 15#4)) = some (0x80#8, 0#8) ∧
      seen (exec (.shl 1#4 2#4) (quirks (regs [0, 0x81, 0x40]) 0)) (fun t => (t.getV 1#4, t.getV 15#4)) =
        some (0x02#8, 1#8) := by decide
/-- T3.36 and T3.38. -/
theorem test_shl_vf :
    seen (exec (.shl 15#4 0#4) (quirks (regsVF [] 0x80) 0)) (·.getV 15#4) = some 2#8 ∧
      seen (exec (.shl 0#4 15#4) (regsVF [9] 0xC1)) (fun t => (t.getV 0#4, t.getV 15#4)) = some (0x82#8, 1#8) := by
  decide
/-- T3.17. -/
theorem test_rnd :
    seen (exec (.rnd 1#4 0x0F#8) { State.reset with env := { State.reset.env with rand := [.byte 0xA7#8] } })
      (·.getV 1#4) = some 0x07#8 := by decide
/-- T3.19; the port's own error value is carried (spec/90_conflicts.md C11). -/
theorem test_rnd_failure :
    seen (exec (.rnd 1#4 0xFF#8) { regs [0, 9] with env := { State.reset.env with rand := [.failed ⟨77⟩] } })
      (fun t => (t.lastError, t.getV 1#4)) = some (some (.rngFailure ⟨77⟩), 9#8) := by decide

/-! ### Index and memory (T4) -/

theorem test_ldI : seen (exec (.ldI 0x300#12) State.reset) (·.i) = some 0x0300#16 := by decide
/-- T4.3 and T4.4. -/
theorem test_addI :
    seen (exec (.addI 0#4) { regs [1] with i := 0x0FFF#16 }) (fun t => (t.i, t.lastError)) = some (0x1000#16, none) ∧
      seen (exec (.addI 0#4) { regs [1] with i := 0xFFFF#16 }) (·.i) = some 0x0000#16 := by decide
/-- T4.5 and T4.7. -/
theorem test_ldF :
    seen (exec (.ldF 1#4) (regs [0, 5])) (·.i) = some 0x0019#16 ∧
      seen (exec (.ldF 1#4) (regs [0, 0xFF])) (·.i) = some 0x04FB#16 := by decide
/-- T4.8. -/
theorem test_ldB :
    seen (exec (.ldB 0#4) { regs [0xFE] with i := 0x300#16 })
      (fun t => (t.readByte 0x300, t.readByte 0x301, t.readByte 0x302, t.i)) = some (2#8, 5#8, 4#8, 0x0300#16) := by
  decide
/-- T4.13. -/
theorem test_ldB_bounds :
    seen (exec (.ldB 0#4) { regs [1] with i := 0xFFE#16 }) (fun t => (t.lastError, t.mem)) =
      some (some (.memoryBounds 0xFFE), []) := by decide
/-- T4.14. -/
theorem test_ldMemVx :
    seen (exec (.ldMemVx 1#4) { regs [0x11, 0x22] with i := 0x400#16 })
      (fun t => (t.readByte 0x400, t.readByte 0x401, t.readByte 0x402, t.i)) = some (0x11#8, 0x22#8, 0#8, 0x0402#16) := by
  decide
/-- T4.18. -/
theorem test_ldMemVx_bounds :
    seen (exec (.ldMemVx 15#4) { regs [1] with i := 0xFF1#16 }) (fun t => (t.lastError, t.mem, t.i)) =
      some (some (.memoryBounds 0xFF1), [], 0xFF1#16) := by decide
/-- T4.16. -/
theorem test_ldVxMem :
    seen (exec (.ldVxMem 2#4) { regs [0, 0, 0, 7] with i := 0x300#16, mem := [(0x300, 2), (0x301, 5), (0x302, 4)] })
      (fun t => (t.getV 0#4, t.getV 1#4, t.getV 2#4, t.getV 3#4, t.i)) = some (2#8, 5#8, 4#8, 7#8, 0x0303#16) := by
  decide
/-- T4.20. -/
theorem test_ldVxMem_bounds :
    seen (exec (.ldVxMem 0#4) { State.reset with i := 0x1000#16 }) (·.lastError) = some (some (.memoryBounds 0x1000)) := by
  decide
/-- T4.21: a font byte is overwritten, and writing its own value back removes the cell. -/
theorem test_memory_canonical :
    seen (exec (.ldMemVx 0#4) (regs [0xAA])) (·.mem) = some [(0, 0xAA#8)] ∧
      seen (exec (.ldMemVx 0#4) { regs [0xF0] with mem := [(0, 0xAA#8)] }) (·.mem) = some [] := by decide

/-! ### Screen (T5) -/

/-- T5.10. -/
theorem test_cls :
    seen (exec .cls { State.reset with fb := List.replicate 256 0xFF#8 }) (fun t => (t.fb, t.dirty)) =
      some (List.replicate 256 0#8, true) := by decide +kernel
/-- T5.3: the right part wraps to the start of the same row. -/
theorem test_blit_wraps :
    (blit Configuration.default 60 31 0xFF (List.replicate 256 0)).1.getD 255 0 = 0x0F#8 ∧
      (blit Configuration.default 60 31 0xFF (List.replicate 256 0)).1.getD 248 0 = 0xF0#8 := by decide
/-- T5.9 and T5.7. -/
theorem test_blit_one_byte_row_and_collision :
    (blit smallScreen 5 0 0x3C (List.replicate 8 0)).1.getD 0 0 = 0xE1#8 ∧
      (blit Configuration.default 57 0 0x01 (0x80#8 :: List.replicate 255 0)).2 = true := by decide
/-- T5.15: the 8-bit row coordinate wraps. -/
theorem test_drw_row_wrap :
    seen (exec (.drw 0#4 1#4 3#4) (regs [0, 0xFE]))
      (fun t => (t.fb.getD 240 0, t.fb.getD 248 0, t.fb.getD 0 0, t.getV 15#4)) = some (0xF0#8, 0x90#8, 0x90#8, 0#8) := by
  decide +kernel
/-- T5.13. -/
theorem test_drw_empty :
    seen (exec (.drw 0#4 1#4 0#4) (regsVF [] 1)) (fun t => (t.getV 15#4, t.dirty)) = some (0#8, false) := by decide +kernel

/-! ### Keyboard and timers (T6) -/

/-- T6.1. -/
theorem test_skp :
    seen (exec (.skp 3#4) { regs [0, 0, 0, 7] with env := { State.reset.env with keyPressed := [true] } })
      (fun t => (t.pc, t.out)) = some (0x0202#16, [.keyPressed 7#8 true]) := by decide
/-- T6.4. -/
theorem test_sknp :
    seen (exec (.sknp 3#4) { regs [0, 0, 0, 7] with env := { State.reset.env with keyPressed := [true] } }) (·.pc) =
      some 0x0200#16 := by decide
/-- T6.6. -/
theorem test_ldVxK :
    seen (stepWord State.reset 0xF50A#16) (fun t => (t.waitingForKey, t.keyTarget, t.pc, t.cycles)) =
      some (true, 5#4, 0x202#16, 1) := by decide
theorem test_ldVxDt : seen (exec (.ldVxDt 1#4) { State.reset with dt := 3#8 }) (·.getV 1#4) = some 3#8 := by decide
theorem test_ldDtVx : seen (exec (.ldDtVx 0#4) (regs [3])) (·.dt) = some 3#8 := by decide
theorem test_ldStVx : seen (exec (.ldStVx 0#4) (regs [3])) (fun t => (t.st, t.out)) = some (3#8, []) := by decide

/-! ### Scheduler (T7) -/

/-- T7.5. -/
theorem test_frame_boundary :
    seen (stepWord { State.reset with
        cycles := 29, dt := 5#8, st := 1#8, dirty := true, env := { State.reset.env with render := [.rendered] } } 0x6000#16)
      (fun t => (t.cycles, t.dt, t.st, t.dirty, t.frames)) = some (30, 4#8, 0#8, false, 1) := by decide
/-- T7.9. -/
theorem test_render_failure :
    seen (stepWord { State.reset with
        cycles := 29, dt := 2#8, dirty := true, env := { State.reset.env with render := [.failed ⟨5⟩] } } 0x6000#16)
      (fun t => (t.lastError, t.dt, t.dirty, t.frames, t.out.filter (fun e => e == .strobe .onError || e == .strobe .afterFrame))) =
      some (some (.displayFailure ⟨5⟩), 1#8, true, 0, [.strobe .onError]) := by decide
/-- T7.3: LoopOnce on a paused core. -/
theorem test_loopOnce :
    seen (step { running 0x6080#16 with isPaused := true, commands := [.loopOnce] })
      (fun t => (t.getV 0#4, t.isPaused, t.cycles, t.out)) =
      some (0x80#8, true, 1, [.strobe .beforeFrame, .strobe .beforeCycle, .strobe .afterCycle, .strobe .afterFrame,
        .tickResult false none]) := by decide
/-- R259: a LoopOnce tick that reports done ends the Loop and the run. -/
theorem test_loopOnce_done_stops_the_loop :
    seen (step { (State.reset.setPc 0xFFE#16).placeWord 0x6080#16 with commands := [.loopOnce] })
      (fun t => (t.pc, t.out.getLast?, t.looping, t.inRun)) =
      some (0x1000#16, some (.tickResult true none), false, false) := by decide
/-- P7, tick 4: a press is latched and nothing is fetched. -/
theorem test_key_wait :
    seen (step { State.reset with
        waitingForKey := true, keyTarget := 5#4, env := { State.reset.env with keyAny := [some 3#8] } })
      (fun t => (t.getV 5#4, t.heldKey, t.waitingForKey, t.waitingForRelease, t.pc, t.cycles)) =
      some (3#8, 3#8, false, true, 0x200#16, 0) := by decide
/-- T2.12. -/
theorem test_unknown_opcode :
    seen (stepWord State.reset 0x5011#16) (fun t => (t.lastError, t.pc, t.ir, t.cycles)) =
      some (some (.unknownOpcode 0x5011#16 0x0202#16), 0x202#16, 0x5011#16, 0) := by decide
/-- Boot stops at the first port that fails. -/
theorem test_boot_failure :
    seen (step { State.powerOn 0 Configuration.default with
        commands := [.boot true], env := { State.reset.env with portBoot := [true, false] } })
      (fun t => (t.isBooted, t.out.getLast?)) = some (false, some (.commandResult (some (.portBootFailure .keyboard)))) := by
  decide
/-- S5.1. -/
theorem test_loadProgram_length :
    seen (step { State.reset with commands := [.loadProgram (List.replicate 3585 1)] }) (fun t => (t.mem, t.out)) =
      some ([], [.commandResult (some (.programTooLarge 3585))]) := by decide +kernel

/-- Offsets of the snapshot's fields (spec/60_exceptions.md R336), with the high byte first. -/
theorem test_snapshot :
    let s : State := { regs [0xA0, 0xA1] with
      ir := 0x1122#16, pc := 0x0204#16, i := 0x0300#16, sp := 9, dt := 7, st := 8,
      stack := State.reset.stack.set 15 0x3344#16 }
    let bs := s.snapshotBytes .highFirst
    bs.length = 57 ∧ bs.take 6 = [0x11, 0x22, 0x02, 0x04, 0xA0, 0xA1] ∧ (bs.drop 20).take 3 = [0x03, 0x00, 0x09] ∧
      bs.drop 53 = [0x33, 0x44, 0x07, 0x08] := by decide

/-! ### The hypotheses of the statements are met, each clause at its boundary values -/

theorem default_ok : Configuration.default.ok = true ∧ Configuration.default.speedOk = true := by decide

/-- A ready state at `6000`. -/
def ready : State := running 0x6000#16

/-- The state the instruction of `ready` leaves. -/
def loaded : State := (ready.entered []).setV 0#4 0#8

theorem ready_ready : ready.Ready [] := ⟨⟨⟨rfl, .inl ⟨rfl, rfl, rfl⟩⟩, rfl, rfl, .inl rfl⟩, rfl, rfl⟩

theorem ready_at : ready.AtInstr (.ldImm 0#4 0x00#8) := ⟨by decide, rfl⟩

/-- A booted core on the small screen, the Loop on. -/
def small : State := { State.powerOn 0 smallScreen with isBooted := true, looping := true }

theorem small_inv : small.Inv := by
  refine ⟨rfl, rfl, rfl, by decide, by decide, ?_, by decide, ?_⟩
  · simp [small, State.powerOn]
  · intro e h
    cases h

theorem test_hyp_DecodeOfEncode : (Instr.sys 0xFFF#12).wf = true ∧ (Instr.sys 0x0E1#12).wf = true := by decide

theorem test_hyp_EncodeOfDecode : ∃ i, decodeWord 0xFF65#16 = .ok i := ⟨_, rfl⟩

theorem test_hyp_DecodeSelectsTableRow :
    0x0000#16 &&& rowMask (.sys 0#12) = rowMatch (.sys 0#12) ∧ 0x00E0#16 &&& rowMask .cls = rowMatch .cls ∧
      0x00E0#16 &&& rowMask (.sys 0#12) = rowMatch (.sys 0#12) := by decide

theorem test_hyp_StepKeepsTheInvariant : small.Inv ∧ (nextOf (step small)).isSome = true :=
  ⟨small_inv, by decide⟩

theorem test_hyp_StepAlwaysAnswers :
    small.Inv ∧ small.cfg.mroutine = false ∧ small.commands = [] := ⟨small_inv, rfl, rfl⟩

theorem test_hyp_StepRunsTheDecodedInstruction : ready.Ready [] ∧ ready.AtInstr (.ldImm 0#4 0x00#8) := ⟨ready_ready, ready_at⟩

theorem test_hyp_CompletedInstructionTick :
    ready.Ready [] ∧ ready.AtInstr (.ldImm 0#4 0x00#8) ∧ exec (.ldImm 0#4 0x00#8) (ready.entered []) = .next loaded ∧
      loaded.lastError = none ∧ (loaded.cycles + 1) % loaded.cfg.cpf ≠ 0 := ⟨ready_ready, ready_at, rfl, rfl, by decide⟩

/-- `ready` one instruction before a boundary, with the framebuffer dirty or not and the Display's answer. -/
def atBoundary (dirty : Bool) (answer : RenderAnswer) (st : Byte) : State :=
  { ready with cycles := 29, st := st, dirty := dirty, env := { Environment.empty with render := [answer] } }

theorem atBoundary_ready (dirty : Bool) (answer : RenderAnswer) (st : Byte) :
    (atBoundary dirty answer st).Ready [] ∧ (atBoundary dirty answer st).AtInstr (.ldImm 0#4 0x00#8) :=
  ⟨⟨⟨⟨default_ok.1, .inl ⟨rfl, rfl, rfl⟩⟩, rfl, rfl, .inl rfl⟩, rfl, rfl⟩, ready_at⟩

theorem due : (29 + 1) % Configuration.default.cpf = 0 := by decide

theorem test_hyp_FrameBoundaryTick (st : Byte) :
    (∃ s u : State, s.st = st ∧ s.Ready [] ∧ s.AtInstr (.ldImm 0#4 0x00#8) ∧ exec (.ldImm 0#4 0x00#8) (s.entered []) = .next u ∧
      u.lastError = none ∧ (u.cycles + 1) % u.cfg.cpf = 0 ∧ u.dirty = false) ∧
    ∃ s u : State, s.st = st ∧ s.Ready [] ∧ s.AtInstr (.ldImm 0#4 0x00#8) ∧ exec (.ldImm 0#4 0x00#8) (s.entered []) = .next u ∧
      u.lastError = none ∧ (u.cycles + 1) % u.cfg.cpf = 0 ∧ u.dirty = true ∧ u.renderAnswer = .rendered :=
  ⟨⟨atBoundary false .rendered st, _, rfl, (atBoundary_ready _ _ _).1, (atBoundary_ready _ _ _).2, rfl, rfl, due, rfl⟩,
    ⟨atBoundary true .rendered st, _, rfl, (atBoundary_ready _ _ _).1, (atBoundary_ready _ _ _).2, rfl, rfl, due, rfl, rfl⟩⟩

theorem test_hyp_RenderFailureTick (f : PortFailure) :
    ∃ s u : State, s.Ready [] ∧ s.AtInstr (.ldImm 0#4 0x00#8) ∧ exec (.ldImm 0#4 0x00#8) (s.entered []) = .next u ∧
      u.lastError = none ∧ (u.cycles + 1) % u.cfg.cpf = 0 ∧ u.dirty = true ∧ u.renderAnswer = .failed f :=
  ⟨atBoundary true (.failed f) 1, _, (atBoundary_ready _ _ _).1, (atBoundary_ready _ _ _).2, rfl, rfl, due, rfl, rfl⟩

theorem test_hyp_RaisedErrorEndsTheTick :
    ∃ u, (running 0x00EE#16).Ready [] ∧ (running 0x00EE#16).AtInstr .ret ∧
      exec .ret ((running 0x00EE#16).entered []) = .next u ∧ u.lastError = some .stackUnderflow :=
  ⟨_, ⟨⟨⟨rfl, .inl ⟨rfl, rfl, rfl⟩⟩, rfl, rfl, .inl rfl⟩, rfl, rfl⟩, ⟨by decide, rfl⟩, rfl, rfl⟩

theorem test_hyp_UnknownWordTick :
    (running 0x5011#16).Ready [] ∧ (running 0x5011#16).pc.toNat + 1 < 4096 ∧
      decodeWord ((running 0x5011#16).entered []).ir = .error (.unknown ((running 0x5011#16).entered []).ir) :=
  ⟨⟨⟨⟨rfl, .inl ⟨rfl, rfl, rfl⟩⟩, rfl, rfl, .inl rfl⟩, rfl, rfl⟩, by decide, rfl⟩

theorem test_hyp_FetchBeyondMemoryTick :
    ∃ s t : State, s.Ready [] ∧ s.pc.toNat + 1 = 4096 ∧ t.Ready [] ∧ 4096 < t.pc.toNat + 1 :=
  ⟨{ State.reset with pc := 0xFFF#16 }, { State.reset with pc := 0x1000#16 },
    ⟨⟨⟨rfl, .inl ⟨rfl, rfl, rfl⟩⟩, rfl, rfl, .inl rfl⟩, rfl, rfl⟩, rfl, ⟨⟨⟨rfl, .inl ⟨rfl, rfl, rfl⟩⟩, rfl, rfl, .inl rfl⟩, rfl, rfl⟩, by decide⟩

theorem test_hyp_HaltedTickReturnsTheError :
    ∃ (s : State) (e : Error), s.Issued [] ∧ s.isBooted = true ∧ s.lastError = some e :=
  ⟨{ State.reset with lastError := some .stackUnderflow }, _, ⟨rfl, .inl ⟨rfl, rfl, rfl⟩⟩, rfl, rfl⟩

theorem test_hyp_NotBootedTickChangesNothing : ∃ s : State, s.Issued [] ∧ s.isBooted = false :=
  ⟨{ State.reset with isBooted := false }, ⟨rfl, .inl ⟨rfl, rfl, rfl⟩⟩, rfl⟩

theorem test_hyp_PausedTickIsIdle :
    ∃ s : State, s.cfg.ok = true ∧ s.commands = [] ∧ s.looping = true ∧ s.isBooted = true ∧ s.lastError = none ∧
      s.isPaused = true := ⟨{ State.reset with isPaused := true }, rfl, rfl, rfl, rfl, rfl, rfl⟩

/-- A state in the press phase of a key wait, with the Keyboard's answer. -/
def pressing (answer : Option Byte) : State :=
  { State.reset with waitingForKey := true, env := { Environment.empty with keyAny := [answer] } }

theorem test_hyp_KeyWaitPollsForAPress :
    (∃ s : State, s.Ticking [] ∧ s.waitingForKey = true ∧ s.keyAnyAnswer = none) ∧
      ∃ s : State, s.Ticking [] ∧ s.waitingForKey = true ∧ s.keyAnyAnswer = some 0xFF#8 :=
  ⟨⟨pressing none, ⟨⟨rfl, .inl ⟨rfl, rfl, rfl⟩⟩, rfl, rfl, .inl rfl⟩, rfl, rfl⟩, ⟨pressing (some 0xFF), ⟨⟨rfl, .inl ⟨rfl, rfl, rfl⟩⟩, rfl, rfl, .inl rfl⟩, rfl, rfl⟩⟩

theorem test_hyp_KeyWaitPollsForTheRelease (answer : Bool) :
    ∃ s : State, s.Ticking [] ∧ s.waitingForKey = false ∧ s.waitingForRelease = true ∧
      s.keyPressedAnswer s.heldKey = answer :=
  ⟨{ State.reset with waitingForRelease := true, env := { Environment.empty with keyPressed := [answer] } },
    ⟨⟨default_ok.1, .inl ⟨rfl, rfl, rfl⟩⟩, rfl, rfl, .inl rfl⟩, rfl, rfl, rfl⟩

/-- `s` paused, with the Loop off and a command that forces a tick. -/
def forced (s : State) (c : Command) : State := { s with isPaused := true, looping := false, commands := [c] }

theorem forced_issued {s : State} {c : Command} (hs : s.cfg.ok = true) (hc : c = .loopOnce ∨ c = .singleFrame) :
    (forced s c).Issued [] := by
  obtain rfl | rfl := hc
  · exact ⟨hs, .inr (.inl rfl)⟩
  · exact ⟨hs, .inr (.inr rfl)⟩

theorem forced_ticking {s : State} {c : Command} (hs : s.Ticking []) (hc : c = .loopOnce ∨ c = .singleFrame) :
    (forced s c).Ticking [] :=
  ⟨forced_issued hs.1.1 hc, hs.2.1, hs.2.2.1, .inr (List.cons_ne_nil _ _)⟩

theorem forced_ready {s : State} {c : Command} (hs : s.Ready []) (hc : c = .loopOnce ∨ c = .singleFrame) :
    (forced s c).Ready [] := ⟨forced_ticking hs.1 hc, hs.2.1, hs.2.2⟩

/-- The hypotheses of the statements on ticks, met by a tick that LoopOnce or SingleFrame forces on a paused core: a legal
word, a word that is no instruction, a fetch beyond memory, both phases of a key wait, a stored error, no Boot. -/
theorem test_hyp_forced_ticks {c : Command} (hc : c = .loopOnce ∨ c = .singleFrame) :
    ((forced ready c).Ready [] ∧ (forced ready c).AtInstr (.ldImm 0#4 0x00#8)) ∧
    (∃ s : State, s.commands = [c] ∧ s.Ready [] ∧ s.pc.toNat + 1 < 4096 ∧
      decodeWord (s.entered []).ir = .error (.unknown (s.entered []).ir)) ∧
    (∃ s : State, s.commands = [c] ∧ s.Ready [] ∧ s.pc.toNat = 4096) ∧
    (∃ s : State, s.commands = [c] ∧ s.Ticking [] ∧ s.waitingForKey = true) ∧
    (∃ s : State, s.commands = [c] ∧ s.Ticking [] ∧ s.waitingForKey = false ∧ s.waitingForRelease = true) ∧
    (∃ s : State, s.commands = [c] ∧ s.Issued [] ∧ s.isBooted = true ∧ s.lastError = some .stackUnderflow) ∧
    ∃ s : State, s.commands = [c] ∧ s.Issued [] ∧ s.isBooted = false :=
  ⟨⟨forced_ready ready_ready hc, ready_at⟩,
    ⟨forced (running 0x5011#16) c, rfl, forced_ready test_hyp_UnknownWordTick.1 hc, test_hyp_UnknownWordTick.2⟩,
    ⟨forced { State.reset with pc := 0x1000#16 } c, rfl,
      forced_ready ⟨⟨⟨default_ok.1, .inl ⟨rfl, rfl, rfl⟩⟩, rfl, rfl, .inl rfl⟩, rfl, rfl⟩ hc, rfl⟩,
    ⟨forced (pressing none) c, rfl, forced_ticking ⟨⟨default_ok.1, .inl ⟨rfl, rfl, rfl⟩⟩, rfl, rfl, .inl rfl⟩ hc, rfl⟩,
    ⟨forced { State.reset with waitingForRelease := true } c, rfl,
      forced_ticking ⟨⟨default_ok.1, .inl ⟨rfl, rfl, rfl⟩⟩, rfl, rfl, .inl rfl⟩ hc, rfl, rfl⟩,
    ⟨forced { State.reset with lastError := some .stackUnderflow } c, rfl, forced_issued default_ok.1 hc, rfl, rfl⟩,
    ⟨forced { State.reset with isBooted := false } c, rfl, forced_issued default_ok.1 hc, rfl⟩⟩

/-- A legal state with one command waiting. -/
def commanded (c : Command) : State := { State.reset with commands := [c] }

theorem commanded_ok (c : Command) : (commanded c).cfg.ok = true ∧ (commanded c).commands = [c] := ⟨default_ok.1, rfl⟩

theorem test_hyp_PowerOnZeroesTheCore :
    (commanded .powerOn).cfg.ok = true ∧ (commanded .powerOn).commands = .powerOn :: [] := commanded_ok _

/-- The longest program that fits, and one byte more. -/
theorem test_hyp_LoadProgramResetsTheCoreOrFails :
    (∃ (s : State) (p : List Byte), s.cfg.ok = true ∧ s.commands = [.loadProgram p] ∧ p.length = 3584) ∧
      ∃ (s : State) (p : List Byte), s.cfg.ok = true ∧ s.commands = [.loadProgram p] ∧ 3584 < p.length :=
  ⟨⟨commanded _, List.replicate 3584 0, (commanded_ok _).1, rfl, List.length_replicate⟩,
    ⟨commanded _, List.replicate 3585 0, (commanded_ok _).1, rfl, by rw [List.length_replicate]; decide⟩⟩

theorem test_hyp_StartAndStopWriteOnlyThePauseFlag :
    ((commanded .start).cfg.ok = true ∧ (commanded .start).commands = .start :: []) ∧
      ((commanded .stop).cfg.ok = true ∧ (commanded .stop).commands = .stop :: []) ∧
      (commanded .loop).cfg.ok = true ∧ (commanded .loop).commands = .loop :: [] :=
  ⟨commanded_ok _, commanded_ok _, commanded_ok _⟩

theorem test_hyp_SnapshotKeepsItsLayout :
    (commanded .snapshot).cfg.ok = true ∧ (commanded .snapshot).commands = .snapshot :: [] := commanded_ok _

/-- Every clause's answers are given by some environment, on a core that is booted or not. -/
theorem test_hyp_BootTouchesOnlyItsFlags (run booted display keyboard buzzer : Bool) :
    ∃ s d k b : State, s.cfg.ok = true ∧ s.commands = .boot run :: [] ∧ d = s.portBootAsked .display ∧
      k = d.portBootAsked .keyboard ∧ b = k.portBootAsked .buzzer ∧ s.isBooted = booted ∧
      s.portBootAnswer .display = display ∧ d.portBootAnswer .keyboard = keyboard ∧ k.portBootAnswer .buzzer = buzzer :=
  ⟨{ State.powerOn 0 Configuration.default with
      isBooted := booted, commands := [.boot run]
      env := { Environment.empty with portBoot := [display, keyboard, buzzer] } },
    _, _, _, default_ok.1, rfl, rfl, rfl, rfl, rfl, rfl, rfl, rfl⟩

/-- Both outcomes of a Boot are reached. -/
theorem test_boot_outcomes :
    seen (step { State.powerOn 0 Configuration.default with
        commands := [.boot false], env := { Environment.empty with portBoot := [true, true, true] } })
      (fun t => (t.isBooted, t.isPaused)) = some (true, true) ∧
    seen (step { State.powerOn 0 Configuration.default with
        commands := [.boot true], env := { Environment.empty with portBoot := [false] } })
      (fun t => (t.isBooted, t.isPaused)) = some (false, false) := by decide

theorem test_hyp_LoopOnceBypassesThePauseFlag (c : Command) :
    ∃ s : State, s.cfg.ok = true ∧ s.commands = [c] ∧ s.isBooted = true ∧ s.lastError = none ∧ s.isPaused = true ∧
      s.waitingForKey = false ∧ s.waitingForRelease = false ∧ s.AtInstr (.ldImm 0#4 0x00#8) :=
  ⟨{ ready with commands := [c], isPaused := true }, default_ok.1, rfl, rfl, rfl, rfl, rfl, rfl, ready_at⟩

/-- Every command, in a run and between runs, and the screen sizes and speeds at the ends of the constraints. -/
theorem test_hyp_ReconfigurationOnlyBetweenRuns (c : Command) (inRun : Bool) :
    (∃ s : State, s.cfg.ok = true ∧ s.cfg.speedOk = true ∧ s.fb.length = s.cfg.fbLen ∧ s.commands = [c] ∧
      s.inRun = inRun) ∧
    (256 % 8 = 0 ∧ 8 ≤ 256 ∧ 256 ≤ 256 ∧ 1 ≤ 256) ∧ (8 % 8 = 0 ∧ 8 ≤ 8 ∧ 8 ≤ 256 ∧ 1 ≤ 1) ∧
    ¬(12 % 8 = 0) ∧ ¬(8 ≤ 0) ∧ ¬(264 ≤ 256) ∧ ¬(1 ≤ 0) ∧
    (5 ≤ 5 ∧ 5 ≤ 5) ∧ ¬(5 ≤ 4 ∧ 4 ≤ 700) ∧ ¬(5 ≤ 701 ∧ 701 ≤ 700) :=
  ⟨⟨{ small with commands := [c], inRun := inRun }, small_inv.cfgOk, default_ok.2, small_inv.fbLen, rfl, rfl⟩, by decide⟩

theorem test_hyp_StopsOutsideTheInvariant :
    (∃ s : State, s.sp.toNat = 17) ∧ (∃ s : State, s.fb.length ≠ s.cfg.fbLen ∧ s.i.toNat + 15 ≤ 4096) ∧
      ∃ s : State, s.cfg.ok = false :=
  ⟨⟨{ State.reset with sp := 17 }, rfl⟩, ⟨{ State.reset with fb := [] }, by decide, by decide⟩,
    ⟨{ State.reset with cfg := { Configuration.default with screenW := 12 } }, rfl⟩⟩

theorem test_hyp_RetPopsOrRaises :
    (∃ s : State, s.sp = 0) ∧ (∃ s : State, s.sp.toNat = 0 + 1) ∧ ∃ s : State, s.sp.toNat = 15 + 1 :=
  ⟨⟨State.reset, rfl⟩, ⟨{ State.reset with sp := 1 }, rfl⟩, ⟨{ State.reset with sp := 16 }, rfl⟩⟩

theorem test_hyp_CallPushesOrRaises :
    (∃ s : State, s.sp.toNat = 0) ∧ (∃ s : State, s.sp.toNat = 15) ∧ ∃ s : State, s.sp.toNat = 16 :=
  ⟨⟨State.reset, rfl⟩, ⟨{ State.reset with sp := 15 }, rfl⟩, ⟨{ State.reset with sp := 16 }, rfl⟩⟩

theorem test_hyp_SysIsANoOpWithoutTheHook (installed : Bool) : ∃ s : State, s.cfg.mroutine = installed :=
  ⟨{ State.reset with cfg := { Configuration.default with mroutine := installed } }, rfl⟩

/-- For every state there is the reading of the registers that the hypothesis asks for, under both values of VF_RESET. -/
theorem test_hyp_LogicClearsVfFirst (s : State) :
    ∃ z : Nibble → Byte, ∀ r, z r = if s.q.getLsbD 0 = true ∧ r = 15#4 then 0 else s.getV r := ⟨_, fun _ => rfl⟩

/-- The operand the hypothesis asks for exists for every state, x being 15 or not. -/
theorem test_hyp_ShiftRightHalvesItsOperand (s : State) (y : Nibble) :
    (∃ a : Byte, a = (if s.q.getLsbD 1 = true then s.getV y else s.getV 15#4)) ∧
      ∃ a : Byte, (14#4 : Nibble) ≠ 15#4 ∧ a = (if s.q.getLsbD 1 = true then s.getV y else s.getV 14#4) :=
  ⟨⟨_, rfl⟩, ⟨_, by decide, rfl⟩⟩

/-- The operand the hypothesis asks for exists for every state, x being 15 or not. -/
theorem test_hyp_ShiftLeftDoublesItsOperand (s : State) (y : Nibble) :
    (∃ a : Byte, a = (if s.q.getLsbD 1 = true then s.getV y else s.getV 15#4)) ∧
      ∃ a : Byte, (14#4 : Nibble) ≠ 15#4 ∧ a = (if s.q.getLsbD 1 = true then s.getV y else s.getV 14#4) :=
  ⟨⟨_, rfl⟩, ⟨_, by decide, rfl⟩⟩

/-- The clauses on a register that is neither the destination nor VF, and on a destination that is not VF. -/
theorem test_hyp_AddImmediate_Add_Subtractions : (0#4 : Nibble) ≠ 15#4 ∧ (1#4 : Nibble) ≠ 0#4 ∧ (1#4 : Nibble) ≠ 15#4 := by
  decide

theorem test_hyp_StoreDecimalWritesThreeDigits :
    ∃ s : State, Memory.wf s.cfg.font s.mem = true ∧ s.i.toNat + 3 = 4096 :=
  ⟨{ State.reset with i := 0xFFD#16 }, rfl, rfl⟩

/-- The bound met exactly and passed by one. -/
theorem test_hyp_LoadRegistersReadsThePrefix :
    (∃ s : State, s.i.toNat + (0#4).toNat + 1 = 4096) ∧ ∃ s : State, s.i.toNat + (0#4).toNat + 1 = 4097 :=
  ⟨⟨{ State.reset with i := 0xFFF#16 }, rfl⟩, ⟨{ State.reset with i := 0x1000#16 }, rfl⟩⟩

/-- The bound met exactly and passed by one. -/
theorem test_hyp_StoreRegistersWritesThePrefix :
    (∃ s : State, Memory.wf s.cfg.font s.mem = true ∧ s.i.toNat + (15#4).toNat + 1 = 4096) ∧
      ∃ s : State, Memory.wf s.cfg.font s.mem = true ∧ s.i.toNat + (15#4).toNat + 1 = 4097 :=
  ⟨⟨{ State.reset with i := 0xFF0#16 }, rfl, rfl⟩, ⟨{ State.reset with i := 0xFF1#16 }, rfl, rfl⟩⟩

theorem test_hyp_DigitAndSpriteAccessBeyondMemoryRaises :
    (∃ s : State, s.i.toNat + 3 = 4097) ∧ ∃ s : State, (1#4 : Nibble) ≠ 0 ∧ s.i.toNat + (1#4).toNat = 4097 :=
  ⟨⟨{ State.reset with i := 0xFFE#16 }, rfl⟩, ⟨{ State.reset with i := 0x1000#16 }, by decide, rfl⟩⟩

theorem test_hyp_StoredBytesAreFetched :
    ∃ s t : State, Memory.wf s.cfg.font s.mem = true ∧ s.memWrite s.pc.toNat [0x6A#8, 0x55#8] = .ok t :=
  ⟨State.reset, _, rfl, rfl⟩

theorem test_hyp_DrawTogglesTheSpritesPixels :
    (∃ s : State, s.cfg.ok = true ∧ s.fb.length = s.cfg.fbLen ∧ s.i.toNat + (15#4).toNat = 4096) ∧
      ∃ s : State, s.cfg.ok = true ∧ s.fb.length = s.cfg.fbLen ∧ 4096 < s.i.toNat :=
  ⟨⟨{ small with i := 0xFF1#16 }, rfl, rfl, rfl⟩, ⟨{ small with i := 0xFFFF#16 }, rfl, rfl, by decide⟩⟩

theorem rows_apart_small : rowsApart smallScreen 250#8 8 := by
  have h : ∀ k < 8, ∀ j < k, (250#8 + BitVec.ofNat 8 j).toNat % 8 ≠ (250#8 + BitVec.ofNat 8 k).toNat % 8 := by decide
  exact fun j k hj hk => h k hk j hj

/-- Rows 250 to 255 and 0 to 8 of a screen of 200 rows. -/
theorem rows_apart_200 : rowsApart { smallScreen with screenH := 200 } 250#8 15 := by
  have h : ∀ k < 15, ∀ j < k, (250#8 + BitVec.ofNat 8 j).toNat % 200 ≠ (250#8 + BitVec.ofNat 8 k).toNat % 200 := by
    decide
  exact fun j k hj hk => h k hk j hj

theorem test_hyp_BlitTogglesExactlyItsPixels :
    smallScreen.ok = true ∧ (List.replicate 8 (0xFF#8 : Byte)).length = smallScreen.fbLen := ⟨rfl, rfl⟩

/-- As many rows as the screen has; a height that divides 256; one that does not, with rows up to 255 and with
rows past it. -/
theorem test_hyp_DrawingTwiceRestoresTheScreen :
    smallScreen.ok = true ∧ (∃ b ∈ List.replicate 8 (0x01#8 : Byte), b ≠ 0) ∧
      (List.replicate 8 (0x01#8 : Byte)).length ≤ smallScreen.screenH ∧ 256 % smallScreen.screenH = 0 ∧
      { smallScreen with screenH := 12 }.ok = true ∧ (244#8 : Byte).toNat + 12 = 256 ∧
      rowsApart smallScreen 250#8 8 ∧ rowsApart { smallScreen with screenH := 200 } 250#8 15 :=
  ⟨by decide, by decide, by decide, by decide, by decide, by decide, rows_apart_small, rows_apart_200⟩

theorem test_hyp_OnlyStoresChangeMemory :
    (nextOf (exec (.jp 0x200#12) State.reset)).isSome = true ∧ (Instr.jp 0x200#12).storesMemory = false := by decide

theorem test_hyp_PcStackIndexAndScreenHaveFewWriters :
    (nextOf (exec (.ldImm 0#4 1#8) State.reset)).isSome = true ∧ (Instr.ldImm 0#4 1#8).writesPc = false ∧
      (Instr.ldImm 0#4 1#8).usesStack = false ∧ Instr.writesI true (.ldImm 0#4 1#8) = false ∧
      Instr.writesI false (.ldMemVx 15#4) = false ∧ (Instr.ldImm 0#4 1#8).writesScreen = false := by decide

theorem test_hyp_RegistersChangeOnlyAsDestinationOrFlag :
    (nextOf (exec (.ldVxMem 14#4) State.reset)).isSome = true ∧
      Instr.writesV (State.reset.q.getLsbD 0) (.ldVxMem 14#4) 15#4 = false ∧
      Instr.writesV false (.or 0#4 1#4) 15#4 = false := by decide

theorem test_hyp_NoInstructionChangesControlState :
    (nextOf (exec (.jp 0x200#12) State.reset)).isSome = true ∧ (Instr.jp 0x200#12).asksPort = false ∧
      (∀ x, Instr.jp 0x200#12 ≠ .ldDtVx x) ∧ (∀ x, Instr.jp 0x200#12 ≠ .ldStVx x) ∧
      ∀ x, Instr.jp 0x200#12 ≠ .ldVxK x := by decide

theorem test_hyp_ErrorsArePrecise :
    State.reset.lastError = none ∧ seen (exec .ret State.reset) (·.lastError) = some (some .stackUnderflow) := by decide

end Sys2Proof.Tests
end

section
/-! The decoder against the encoder, and the rows of the opcode map as the words of their instructions
(spec/30_encoding.md R94, R97). A word decodes to `i` exactly when `i` is well formed and encodes to it; a row selects
exactly the words its instructions encode to. -/

namespace Sys2Proof

/-! ### A word whose fixed fields are those of a format is the packing of its operand fields -/

theorem packNnn_eq_of_fieldH {w : Word} {h : Nibble} (hH : fieldH w = h) : packNnn h (fieldNnn w) = w := by
  subst hH
  exact packNnn_fields w

theorem packXkk_eq_of_fields {w : Word} {h : Nibble} {kk : Byte} (hH : fieldH w = h) (hKk : fieldKk w = kk) :
    packXkk h (fieldX w) kk = w := by
  subst hH hKk
  exact packXkk_fields w

theorem packXyn_eq_of_fields {w : Word} {h n : Nibble} (hH : fieldH w = h) (hN : fieldN w = n) :
    packXyn h (fieldX w) (fieldY w) n = w := by
  subst hH hN
  exact packXyn_fields w

/-! ### A word whose masked value is that of a row -/

theorem fieldH_of_and_F000 {w : Word} {h : Nibble} (e : w &&& 0xF000#16 = packNnn h 0#12) : fieldH w = h := by
  rw [← packNnn_fields w, Laws.EncodeRow.packNnn_and] at e
  simpa using congrArg fieldH e

theorem packXkk_of_and_F0FF {w : Word} {h : Nibble} {kk : Byte} (e : w &&& 0xF0FF#16 = packXkk h 0#4 kk) :
    packXkk h (fieldX w) kk = w := by
  rw [← packXkk_fields w, Laws.EncodeRow.packXkk_and_F0FF] at e
  exact packXkk_eq_of_fields (by simpa using congrArg fieldH e) (by simpa using congrArg fieldKk e)

theorem packXyn_of_and_F00F {w : Word} {h n : Nibble} (e : w &&& 0xF00F#16 = packXyn h 0#4 0#4 n) :
    packXyn h (fieldX w) (fieldY w) n = w := by
  rw [← packXyn_fields w, Laws.EncodeRow.packXyn_and_F00F] at e
  exact packXyn_eq_of_fields (by simpa using congrArg fieldH e) (by simpa using congrArg fieldN e)

/-! ### Well-formedness as a condition on the word -/

theorem packNnn_inj {h : Nibble} {a b : Addr} : packNnn h a = packNnn h b ↔ a = b :=
  ⟨fun e => by simpa using congrArg fieldNnn e, congrArg _⟩

/-- The one constraint on instruction terms is the `SYS` row's exclusion of the words of `CLS` and `RET`. -/
theorem wf_iff_encode (i : Instr) :
    i.wf = true ↔ (rowMatch i = 0x0000#16 → encode i ≠ 0x00E0#16 ∧ encode i ≠ 0x00EE#16) := by
  cases i with
  | sys nnn =>
    have hE0 : packNnn 0x0#4 nnn = 0x00E0#16 ↔ nnn = 0x0E0#12 := packNnn_inj (b := 0x0E0#12)
    have hEE : packNnn 0x0#4 nnn = 0x00EE#16 ↔ nnn = 0x0EE#12 := packNnn_inj (b := 0x0EE#12)
    simp [Instr.wf, rowMatch, encode, hE0, hEE]
  | _ => simp [Instr.wf, rowMatch]

/-! ### Decoding what was encoded -/

theorem decodeFamily0_sys {nnn : Addr} (hwf : (Instr.sys nnn).wf = true) :
    decodeFamily0 (packNnn 0x0#4 nnn) = .sys nnn := by
  obtain ⟨hcls, hret⟩ : packNnn 0x0#4 nnn ≠ 0x00E0#16 ∧ packNnn 0x0#4 nnn ≠ 0x00EE#16 :=
    (wf_iff_encode _).1 hwf rfl
  rw [decodeFamily0, if_neg hcls, if_neg hret, fieldNnn_packNnn]

theorem decodeWord_encode {i : Instr} (hwf : i.wf = true) : decodeWord (encode i) = .ok i := by
  cases i with
  | cls | ret => rfl
  | sys nnn => simp [encode, decodeWord, decodeFamily0_sys hwf]
  | _ => simp [encode, decodeWord, decodeFamily8, decodeFamilyE, decodeFamilyF]

/-! ### Encoding what was decoded, family by family -/

theorem decodeFamily0_sound {w : Word} (hH : fieldH w = 0x0#4) :
    (decodeFamily0 w).wf = true ∧ encode (decodeFamily0 w) = w := by
  unfold decodeFamily0
  split
  case isTrue hcls => exact ⟨rfl, hcls.symm⟩
  case isFalse hcls =>
    split
    case isTrue hret => exact ⟨rfl, hret.symm⟩
    case isFalse hret =>
      have henc : encode (.sys (fieldNnn w)) = w := packNnn_eq_of_fieldH hH
      exact ⟨(wf_iff_encode _).2 fun _ => by rw [henc]; exact ⟨hcls, hret⟩, henc⟩

theorem decodeFamily8_sound {w : Word} {i : Instr} (hH : fieldH w = 0x8#4) (h : decodeFamily8 w = .ok i) :
    i.wf = true ∧ encode i = w := by
  unfold decodeFamily8 at h
  split at h <;> cases h
  all_goals
    rename_i hN
    exact ⟨rfl, packXyn_eq_of_fields hH (BitVec.eq_of_toNat_eq hN)⟩

theorem decodeFamilyE_sound {w : Word} {i : Instr} (hH : fieldH w = 0xE#4) (h : decodeFamilyE w = .ok i) :
    i.wf = true ∧ encode i = w := by
  unfold decodeFamilyE at h
  split at h <;> cases h
  all_goals
    rename_i hKk
    exact ⟨rfl, packXkk_eq_of_fields hH (BitVec.eq_of_toNat_eq hKk)⟩

theorem decodeFamilyF_sound {w : Word} {i : Instr} (hH : fieldH w = 0xF#4) (h : decodeFamilyF w = .ok i) :
    i.wf = true ∧ encode i = w := by
  unfold decodeFamilyF at h
  split at h <;> cases h
  all_goals
    rename_i hKk
    exact ⟨rfl, packXkk_eq_of_fields hH (BitVec.eq_of_toNat_eq hKk)⟩

/-- The branches of `decodeWord` in their order: `h_1` is family 0, `h_16` is family F. -/
theorem decodeWord_sound {w : Word} {i : Instr} (h : decodeWord w = .ok i) : i.wf = true ∧ encode i = w := by
  unfold decodeWord at h
  split at h
  case h_1 hH =>
    cases h
    exact decodeFamily0_sound (BitVec.eq_of_toNat_eq hH)
  case h_2 hH | h_3 hH | h_11 hH | h_12 hH =>
    cases h
    exact ⟨rfl, packNnn_eq_of_fieldH (BitVec.eq_of_toNat_eq hH)⟩
  case h_4 hH | h_5 hH | h_7 hH | h_8 hH | h_13 hH =>
    cases h
    exact ⟨rfl, packXkk_eq_of_fields (BitVec.eq_of_toNat_eq hH) rfl⟩
  case h_6 hH | h_10 hH =>
    split at h
    case isTrue hN =>
      cases h
      exact ⟨rfl, packXyn_eq_of_fields (BitVec.eq_of_toNat_eq hH) hN⟩
    case isFalse => cases h
  case h_9 hH => exact decodeFamily8_sound (BitVec.eq_of_toNat_eq hH) h
  case h_14 hH =>
    cases h
    exact ⟨rfl, packXyn_eq_of_fields (BitVec.eq_of_toNat_eq hH) rfl⟩
  case h_15 hH => exact decodeFamilyE_sound (BitVec.eq_of_toNat_eq hH) h
  case h_16 =>
    have hH : (fieldH w).toNat = 15 := by
      have := (fieldH w).isLt
      simp only [imp_false] at *
      omega
    exact decodeFamilyF_sound (BitVec.eq_of_toNat_eq hH) h

theorem decodeWord_eq_ok_iff {w : Word} {i : Instr} : decodeWord w = .ok i ↔ i.wf = true ∧ encode i = w :=
  ⟨decodeWord_sound, fun ⟨hwf, henc⟩ => henc ▸ decodeWord_encode hwf⟩

/-! ### The words of a row -/

theorem encode_and_rowMask (i : Instr) : encode i &&& rowMask i = rowMatch i := by
  cases i with
  | cls => exact Laws.EncodeRow.cls
  | ret => exact Laws.EncodeRow.ret
  | sys nnn | jp nnn | call nnn | ldI nnn | jpV0 nnn => exact Laws.EncodeRow.packNnn_and _ nnn
  | seImm x kk | sneImm x kk | ldImm x kk | addImm x kk | rnd x kk => exact Laws.EncodeRow.packXkk_and_F000 _ x kk
  | drw x y n => exact Laws.EncodeRow.drw x y n
  | seReg x y | ldReg x y | or x y | and x y | xor x y | addReg x y | sub x y | shr x y | subn x y | shl x y
  | sneReg x y => exact Laws.EncodeRow.packXyn_and_F00F _ x y _
  | skp x | sknp x | ldVxDt x | ldVxK x | ldDtVx x | ldStVx x | addI x | ldF x | ldB x | ldMemVx x
  | ldVxMem x => exact Laws.EncodeRow.packXkk_and_F0FF _ x _

/-- The instruction of the row `i` stands in whose operands are the fields of `w`. -/
def Instr.withFieldsOf (w : Word) : Instr → Instr
  | .cls => .cls
  | .ret => .ret
  | .sys _ => .sys (fieldNnn w)
  | .jp _ => .jp (fieldNnn w)
  | .call _ => .call (fieldNnn w)
  | .seImm _ _ => .seImm (fieldX w) (fieldKk w)
  | .sneImm _ _ => .sneImm (fieldX w) (fieldKk w)
  | .seReg _ _ => .seReg (fieldX w) (fieldY w)
  | .ldImm _ _ => .ldImm (fieldX w) (fieldKk w)
  | .addImm _ _ => .addImm (fieldX w) (fieldKk w)
  | .ldReg _ _ => .ldReg (fieldX w) (fieldY w)
  | .or _ _ => .or (fieldX w) (fieldY w)
  | .and _ _ => .and (fieldX w) (fieldY w)
  | .xor _ _ => .xor (fieldX w) (fieldY w)
  | .addReg _ _ => .addReg (fieldX w) (fieldY w)
  | .sub _ _ => .sub (fieldX w) (fieldY w)
  | .shr _ _ => .shr (fieldX w) (fieldY w)
  | .subn _ _ => .subn (fieldX w) (fieldY w)
  | .shl _ _ => .shl (fieldX w) (fieldY w)
  | .sneReg _ _ => .sneReg (fieldX w) (fieldY w)
  | .ldI _ => .ldI (fieldNnn w)
  | .jpV0 _ => .jpV0 (fieldNnn w)
  | .rnd _ _ => .rnd (fieldX w) (fieldKk w)
  | .drw _ _ _ => .drw (fieldX w) (fieldY w) (fieldN w)
  | .skp _ => .skp (fieldX w)
  | .sknp _ => .sknp (fieldX w)
  | .ldVxDt _ => .ldVxDt (fieldX w)
  | .ldVxK _ => .ldVxK (fieldX w)
  | .ldDtVx _ => .ldDtVx (fieldX w)
  | .ldStVx _ => .ldStVx (fieldX w)
  | .addI _ => .addI (fieldX w)
  | .ldF _ => .ldF (fieldX w)
  | .ldB _ => .ldB (fieldX w)
  | .ldMemVx _ => .ldMemVx (fieldX w)
  | .ldVxMem _ => .ldVxMem (fieldX w)

@[simp] theorem rowMatch_withFieldsOf (w : Word) (i : Instr) : rowMatch (i.withFieldsOf w) = rowMatch i := by
  cases i <;> rfl

@[simp] theorem rowMask_withFieldsOf (w : Word) (i : Instr) : rowMask (i.withFieldsOf w) = rowMask i := by
  cases i <;> rfl

/-- A word that a row selects is the word of the row's instruction with the word's own fields as operands. -/
theorem encode_withFieldsOf {w : Word} {i : Instr} (h : w &&& rowMask i = rowMatch i) :
    encode (i.withFieldsOf w) = w := by
  cases i with
  | cls | ret => exact h.symm.trans BitVec.and_allOnes
  | sys | jp | call | ldI | jpV0 => exact packNnn_eq_of_fieldH (fieldH_of_and_F000 h)
  | seImm | sneImm | ldImm | addImm | rnd => exact packXkk_eq_of_fields (fieldH_of_and_F000 h) rfl
  | drw => exact packXyn_eq_of_fields (fieldH_of_and_F000 h) rfl
  | seReg | ldReg | or | and | xor | addReg | sub | shr | subn | shl | sneReg => exact packXyn_of_and_F00F h
  | skp | sknp | ldVxDt | ldVxK | ldDtVx | ldStVx | addI | ldF | ldB | ldMemVx | ldVxMem =>
    exact packXkk_of_and_F0FF h

/-- Settles O3: what a row's instructions encode to is what the row selects, and decoding inverts encoding. -/
theorem decodeSelectsTableRow : Obligations.DecodeSelectsTableRow := by
  unfold Obligations.DecodeSelectsTableRow
  intro w j
  constructor
  · rintro ⟨i, hdec, hmatch, hmask⟩
    obtain ⟨hwf, rfl⟩ := decodeWord_eq_ok_iff.1 hdec
    rw [← hmatch, ← hmask]
    exact ⟨encode_and_rowMask i, (wf_iff_encode i).1 hwf⟩
  · rintro ⟨hselects, hsys⟩
    have henc : encode (j.withFieldsOf w) = w := encode_withFieldsOf hselects
    have hwf : (j.withFieldsOf w).wf = true := (wf_iff_encode _).2 (by rwa [rowMatch_withFieldsOf, henc])
    exact ⟨j.withFieldsOf w, decodeWord_eq_ok_iff.2 ⟨hwf, henc⟩, rowMatch_withFieldsOf w j, rowMask_withFieldsOf w j⟩

end Sys2Proof
end

section
/-! The jumps (spec/40_flow.md R123, R125): the operand forms they use, read as naturals, and what they store in `Pc`. -/

namespace Sys2Proof.Machine

/-! ### The operand forms as naturals -/

@[simp] theorem toNat_zextAddr (nnn : Addr) : (zextAddr nnn).toNat = nnn.toNat :=
  BitVec.toNat_setWidth_of_le (by decide)

@[simp] theorem toNat_zextByte (b : Byte) : (zextByte b).toNat = b.toNat :=
  BitVec.toNat_setWidth_of_le (by decide)

theorem zextAddr_eq_ofNat (nnn : Addr) : zextAddr nnn = BitVec.ofNat 16 nnn.toNat :=
  (BitVec.ofNat_toNat 16 nnn).symm

/-- A byte and a 12-bit address sum to at most `0x10FE`, so 16 bits never wrap (R125). -/
theorem toNat_zextByte_add_zextAddr (b : Byte) (nnn : Addr) :
    (zextByte b + zextAddr nnn).toNat = b.toNat + nnn.toNat := by
  have hsum : (zextByte b).toNat + (zextAddr nnn).toNat < 2 ^ 16 := by
    have hb : b.toNat < 2 ^ 8 := b.isLt
    have hnnn : nnn.toNat < 2 ^ 12 := nnn.isLt
    simp only [toNat_zextByte, toNat_zextAddr]
    omega
  rw [BitVec.toNat_add_of_lt hsum, toNat_zextByte, toNat_zextAddr]

theorem jumpRegister_eq_ofNat (nnn : Addr) : jumpRegister nnn = BitVec.ofNat 4 (nnn.toNat / 256) := by
  rw [jumpRegister, BitVec.extractLsb', Nat.shiftRight_eq_div_pow]

theorem State.jumpBase_eq (s : State) (nnn : Addr) :
    s.jumpBase nnn =
      if s.q.getLsbD 4 = true then s.getV (BitVec.ofNat 4 (nnn.toNat / 256)) else s.getV 0#4 := by
  rw [← jumpRegister_eq_ofNat]
  rfl

/-! ### What the jumps do -/

theorem exec_jp (nnn : Addr) (s : State) : exec (.jp nnn) s = .next (s.setPc (zextAddr nnn)) := rfl

theorem exec_jpV0 (nnn : Addr) (s : State) :
    exec (.jpV0 nnn) s = .next (s.setPc (zextByte (s.jumpBase nnn) + zextAddr nnn)) := rfl

/-- Settles O32: each jump only stores its target in `Pc`, and the target of `Bxnn` is a sum that 16 bits hold. -/
theorem jumpsStoreTheirTarget : Obligations.JumpsStoreTheirTarget := by
  unfold Obligations.JumpsStoreTheirTarget
  intro s nnn
  constructor
  · rw [exec_jp, zextAddr_eq_ofNat]
    rfl
  · refine ⟨_, exec_jpV0 nnn s, rfl, ?_⟩
    rw [State.setPc_pc, toNat_zextByte_add_zextAddr, State.jumpBase_eq]

end Sys2Proof.Machine
end

section
/-! The register skips (spec/41_skip.md R140 to R144): a skip on a comparison of two bytes as an `if` on their equality,
and what each instruction compares. -/

namespace Sys2Proof.Machine

/-! ### A skip on a comparison of two bytes -/

theorem State.skipIf_beq (s : State) (a b : Byte) :
    s.skipIf (a == b) = { s with pc := if a = b then s.pc + 2 else s.pc } := by
  have hpc : (if (a == b) = true then s.pc + 2 else s.pc) = if a = b then s.pc + 2 else s.pc := by
    simp only [beq_iff_eq]
  exact congrArg s.setPc hpc

theorem State.skipIf_bne (s : State) (a b : Byte) :
    s.skipIf (a != b) = { s with pc := if a = b then s.pc else s.pc + 2 } := by
  have hpc : (if (a != b) = true then s.pc + 2 else s.pc) = if a = b then s.pc else s.pc + 2 := by
    simp only [bne_iff_ne, ne_eq, ite_not]
  exact congrArg s.setPc hpc

/-! ### What the register skips do -/

theorem exec_seImm (x : Nibble) (kk : Byte) (s : State) :
    exec (.seImm x kk) s = .next (s.skipIf (s.getV x == kk)) := rfl

theorem exec_sneImm (x : Nibble) (kk : Byte) (s : State) :
    exec (.sneImm x kk) s = .next (s.skipIf (s.getV x != kk)) := rfl

theorem exec_seReg (x y : Nibble) (s : State) :
    exec (.seReg x y) s = .next (s.skipIf (s.getV x == s.getV y)) := rfl

theorem exec_sneReg (x y : Nibble) (s : State) :
    exec (.sneReg x y) s = .next (s.skipIf (s.getV x != s.getV y)) := rfl

/-- Settles O34: each register skip is one comparison of bytes, and a skip on a comparison only moves `Pc`. -/
theorem skipsAddTwoWhenTheirConditionHolds : Obligations.SkipsAddTwoWhenTheirConditionHolds := by
  unfold Obligations.SkipsAddTwoWhenTheirConditionHolds
  intro s x y kk
  refine ⟨?seImm, ?sneImm, ?seReg, ?sneReg⟩
  case seImm => rw [exec_seImm, State.skipIf_beq]
  case sneImm => rw [exec_sneImm, State.skipIf_bne]
  case seReg => rw [exec_seReg, State.skipIf_beq]
  case sneReg => rw [exec_sneReg, State.skipIf_bne]

end Sys2Proof.Machine
end

section
/-! The loads and the arithmetic (spec/42_alu.md R151 to R153, R157, R158, R160; spec/45_keys_timers.md R234): what a
register write and a result followed by its flag leave in the registers, and which bytes each instruction writes. -/

namespace Sys2Proof.Machine

/-! ### Results and flags -/

theorem flagByte_decide (p : Prop) [Decidable p] : flagByte (decide p) = if p then 1 else 0 := by
  by_cases h : p <;> simp [flagByte, h]

theorem carryFlag_eq (a b : Byte) : carryFlag a b = if 255 < a.toNat + b.toNat then 1 else 0 :=
  flagByte_decide _

theorem notBorrowFlag_eq (a b : Byte) : notBorrowFlag a b = if b.toNat ≤ a.toNat then 1 else 0 :=
  flagByte_decide _

/-- Subtraction modulo 256 on naturals: 256 is added first so that the natural difference does not stop at 0. -/
theorem toNat_byte_sub (a b : Byte) : (a - b).toNat = (a.toNat + 256 - b.toNat) % 256 := by
  have hb : b.toNat < 256 := b.isLt
  rw [BitVec.toNat_sub]
  congr 1
  omega

/-! ### Registers after a write -/

theorem State.getV_setV_self (s : State) (x : Nibble) (b : Byte) : (s.setV x b).getV x = b := by
  rw [State.getV_setV, if_pos rfl]

theorem State.getV_setV_of_ne (s : State) {x r : Nibble} (b : Byte) (h : r ≠ x) :
    (s.setV x b).getV r = s.getV r := by
  rw [State.getV_setV, if_neg h]

/-- VF is written last, so it holds the flag whatever the destination is. -/
theorem State.resultThenFlag_flag (s : State) (x : Nibble) (result flag : Byte) :
    (s.resultThenFlag x result flag).getV 15#4 = flag := by
  rw [State.getV_resultThenFlag, if_pos rfl]

theorem State.resultThenFlag_result (s : State) {x : Nibble} (result flag : Byte) (hx : x ≠ 15#4) :
    (s.resultThenFlag x result flag).getV x = result := by
  rw [State.getV_resultThenFlag, if_neg hx, if_pos rfl]

theorem State.resultThenFlag_frame (s : State) {x r : Nibble} (result flag : Byte) (hx : r ≠ x) (hVF : r ≠ 15#4) :
    (s.resultThenFlag x result flag).getV r = s.getV r := by
  rw [State.getV_resultThenFlag, if_neg hVF, if_neg hx]

/-! ### What the loads do -/

theorem exec_ldImm (x : Nibble) (kk : Byte) (s : State) : exec (.ldImm x kk) s = .next (s.setV x kk) := rfl

theorem exec_ldReg (x y : Nibble) (s : State) : exec (.ldReg x y) s = .next (s.setV x (s.getV y)) := rfl

theorem exec_ldVxDt (x : Nibble) (s : State) : exec (.ldVxDt x) s = .next (s.setV x s.dt) := rfl

/-- Settles O36: each load is one register write, which touches the register file alone. -/
theorem loadsWriteOnlyTheirRegister : Obligations.LoadsWriteOnlyTheirRegister := by
  unfold Obligations.LoadsWriteOnlyTheirRegister
  intro s x y kk
  refine ⟨?ldImm, ?ldReg, ?ldVxDt⟩
  case ldImm => exact ⟨_, exec_ldImm x kk s, rfl, fun r => s.getV_setV x r kk⟩
  case ldReg => exact ⟨_, exec_ldReg x y s, rfl, fun r => s.getV_setV x r (s.getV y)⟩
  case ldVxDt => exact ⟨_, exec_ldVxDt x s, rfl, fun r => s.getV_setV x r s.dt⟩

/-! ### What the additions do -/

theorem exec_addImm (x : Nibble) (kk : Byte) (s : State) :
    exec (.addImm x kk) s = .next (s.setV x (s.getV x + kk)) := rfl

theorem exec_addReg (x y : Nibble) (s : State) :
    exec (.addReg x y) s =
      .next (s.resultThenFlag x (s.getV x + s.getV y) (carryFlag (s.getV x) (s.getV y))) := rfl

/-- Settles O37: `7xkk` is one register write, of a sum that eight bits reduce. -/
theorem addImmediateWrapsWithoutFlag : Obligations.AddImmediateWrapsWithoutFlag := by
  unfold Obligations.AddImmediateWrapsWithoutFlag
  intro s x kk
  refine ⟨_, exec_addImm x kk s, rfl, ?sum, fun r hr => s.getV_setV_of_ne _ hr⟩
  case sum => rw [State.getV_setV_self, BitVec.toNat_add]

/-- Settles O39: the sum is written before the carry, and both come from the operands as they were. -/
theorem addWritesTheCarryLast : Obligations.AddWritesTheCarryLast := by
  unfold Obligations.AddWritesTheCarryLast
  intro s x y
  refine ⟨_, exec_addReg x y s, State.resultThenFlag_eq .., ?carry, ?sum,
    fun r hx hVF => s.resultThenFlag_frame _ _ hx hVF⟩
  case carry => rw [State.resultThenFlag_flag, carryFlag_eq]
  case sum =>
    intro hx
    rw [State.resultThenFlag_result s _ _ hx, BitVec.toNat_add]

/-! ### What the subtractions do -/

theorem exec_sub (x y : Nibble) (s : State) :
    exec (.sub x y) s =
      .next (s.resultThenFlag x (s.getV x - s.getV y) (notBorrowFlag (s.getV x) (s.getV y))) := rfl

theorem exec_subn (x y : Nibble) (s : State) :
    exec (.subn x y) s =
      .next (s.resultThenFlag x (s.getV y - s.getV x) (notBorrowFlag (s.getV y) (s.getV x))) := rfl

/-- The registers after `a - b` to `V[x]` and then the not-borrow to VF, for either order of the operands. -/
theorem State.getV_difference_then_notBorrow (s : State) (x : Nibble) {a b : Byte} {t : State}
    (ht : t = s.resultThenFlag x (a - b) (notBorrowFlag a b)) :
    t.getV 15#4 = (if b.toNat ≤ a.toNat then 1 else 0) ∧
      (x ≠ 15#4 → (t.getV x).toNat = (a.toNat + 256 - b.toNat) % 256) ∧
      ∀ r, r ≠ x → r ≠ 15#4 → t.getV r = s.getV r := by
  subst ht
  refine ⟨?notBorrow, ?difference, fun r hx hVF => s.resultThenFlag_frame _ _ hx hVF⟩
  case notBorrow => rw [State.resultThenFlag_flag, notBorrowFlag_eq]
  case difference =>
    intro hx
    rw [State.resultThenFlag_result s _ _ hx, toNat_byte_sub]

/-- Settles O40: `8xy5` and `8xy7` are the same two writes with the operands exchanged. -/
theorem subtractionsWriteNotBorrowLast : Obligations.SubtractionsWriteNotBorrowLast := by
  unfold Obligations.SubtractionsWriteNotBorrowLast
  intro s x y
  constructor
  · exact ⟨_, exec_sub x y s, State.resultThenFlag_eq .., s.getV_difference_then_notBorrow x rfl⟩
  · exact ⟨_, exec_subn x y s, State.resultThenFlag_eq .., s.getV_difference_then_notBorrow x rfl⟩

end Sys2Proof.Machine
end

section
/-! The timer writes (spec/45_keys_timers.md R235, R236). -/

namespace Sys2Proof.Machine

theorem exec_ldDtVx (x : Nibble) (s : State) : exec (.ldDtVx x) s = .next { s with dt := s.getV x } := rfl

theorem exec_ldStVx (x : Nibble) (s : State) : exec (.ldStVx x) s = .next { s with st := s.getV x } := rfl

/-- Settles O55: each timer write is one field update, which leaves the list of outputs as it was. -/
theorem timerWritesWriteOnlyTheTimer : Obligations.TimerWritesWriteOnlyTheTimer := by
  unfold Obligations.TimerWritesWriteOnlyTheTimer
  intro s x
  exact ⟨exec_ldDtVx x s, exec_ldStVx x s⟩

end Sys2Proof.Machine
end

section
/-! The idle tick of a paused core (spec/48_scheduler.md R254). -/

namespace Sys2Proof.Machine

/-- A tick that is not done and has no error only puts its result out. -/
theorem State.endTick_notDone_noError (s : State) : s.endTick false none = s.emit (.tickResult false none) := by
  rw [State.endTick_eq, Option.isSome_none, Bool.or_false, Bool.not_false, Bool.and_true, Bool.and_true]
  rfl

/-- T2 of spec/48_scheduler.md R250, not bypassed. -/
theorem tick_paused {s : State} (hbooted : s.isBooted = true) (herror : s.lastError = none)
    (hpaused : s.isPaused = true) :
    tick false s = .next ((s.emit (.strobe .beforeFrame)).emit (.tickResult false none)) := by
  simp [tick, hbooted, herror, hpaused, State.endTick_notDone_noError]

/-- Settles O19: the Loop issues the tick, and a paused tick that nothing bypasses returns at T2. -/
theorem pausedTickIsIdle : Obligations.PausedTickIsIdle := by
  unfold Obligations.PausedTickIsIdle
  intro s hok hcommands hlooping hbooted herror hpaused
  have hissued : s.Issued s.commands := ⟨hok, .inl ⟨hcommands, hcommands, hlooping⟩⟩
  have hforced : decide (s.commands ≠ []) = false := by simp [hcommands]
  rw [hissued.step_eq, hforced]
  exact tick_paused hbooted herror hpaused

end Sys2Proof.Machine
end

section
/-! The round trip between words and instructions (spec/30_encoding.md R94, R97), and the words that are no instruction
(R98), family by family. -/

namespace Sys2Proof

theorem decodeBytes_bytesOfWord {w : Word} {i : Instr} (h : decodeWord w = .ok i) :
    decodeBytes (bytesOfWord w) = .ok (i, []) := by
  simp [bytesOfWord, decodeBytes, h]

/-- Settles O1: the decoder finds each encoded field where the encoder put it, and two bytes make their word again. -/
theorem decodeOfEncode : Obligations.DecodeOfEncode := by
  unfold Obligations.DecodeOfEncode
  intro i hwf
  exact ⟨decodeWord_encode hwf, decodeBytes_bytesOfWord (decodeWord_encode hwf)⟩

/-- Settles O2: each branch of the decoder has tested the fixed fields that the encoder writes. -/
theorem encodeOfDecode : Obligations.EncodeOfDecode := by
  unfold Obligations.EncodeOfDecode
  exact fun w i h => decodeWord_sound h

/-! ### The words that are no instruction -/

theorem decodeFamily8_eq_unknown_iff (w : Word) :
    decodeFamily8 w = .error (.unknown w) ↔ fieldN w ∈ [0x8#4, 0x9#4, 0xA#4, 0xB#4, 0xC#4, 0xD#4, 0xF#4] := by
  have hlt : (fieldN w).toNat < 16 := (fieldN w).isLt
  unfold decodeFamily8
  split <;> simp_all [BitVec.toNat_eq]
  case h_10 => omega

theorem decodeFamilyE_eq_unknown_iff (w : Word) :
    decodeFamilyE w = .error (.unknown w) ↔ fieldKk w ∉ [0x9E#8, 0xA1#8] := by
  unfold decodeFamilyE
  split <;> simp_all [BitVec.toNat_eq]

theorem decodeFamilyF_eq_unknown_iff (w : Word) :
    decodeFamilyF w = .error (.unknown w) ↔
      fieldKk w ∉ [0x07#8, 0x0A#8, 0x15#8, 0x18#8, 0x1E#8, 0x29#8, 0x33#8, 0x55#8, 0x65#8] := by
  unfold decodeFamilyF
  split <;> simp_all [BitVec.toNat_eq]

/-- Settles O4: the high nibble selects the family, and each family rejects by its own field. -/
theorem illegalWordsAreUnknown : Obligations.IllegalWordsAreUnknown := by
  unfold Obligations.IllegalWordsAreUnknown
  intro w
  rw [← decodeFamily8_eq_unknown_iff, ← decodeFamilyE_eq_unknown_iff, ← decodeFamilyF_eq_unknown_iff]
  have hlt : (fieldH w).toNat < 16 := (fieldH w).isLt
  unfold decodeWord
  split
  case h_16 =>
    have hF : (fieldH w).toNat = 0xF := by
      simp only [imp_false] at *
      omega
    simp [BitVec.toNat_eq (x := fieldH w), hF]
  all_goals
    rename_i hH
    simp [BitVec.toNat_eq (x := fieldH w), hH]

/-- Settles O5. -/
theorem sampleWordsDecode : Obligations.SampleWordsDecode := by
  unfold Obligations.SampleWordsDecode
  decide

end Sys2Proof
end

section
/-! What the remaining instructions do, one equation per case, and for those that can go more than one way the list of the
ways. Every instruction enters the later proofs through these equations. -/

namespace Sys2Proof.Machine

/-! ### Control transfer (spec/40_flow.md) -/

theorem exec_ret_of_empty {s : State} (h : s.sp = 0) : exec .ret s = .next (s.raise .stackUnderflow) := if_pos h

theorem exec_ret_of_top {s : State} {w : Word} (h : s.sp ≠ 0) (htop : s.top = some w) :
    exec .ret s = .next (s.popTo w) := by
  refine (if_neg h).trans ?_
  rw [htop]

theorem exec_ret_of_no_top {s : State} (h : s.sp ≠ 0) (htop : s.top = none) : exec .ret s = .fault .stackIndex := by
  refine (if_neg h).trans ?_
  rw [htop]

theorem exec_ret_cases {s t : State} (h : exec .ret s = .next t) :
    (s.sp = 0 ∧ t = s.raise .stackUnderflow) ∨ (∃ w, s.sp ≠ 0 ∧ s.top = some w ∧ t = s.popTo w) := by
  by_cases hsp : s.sp = 0
  · rw [exec_ret_of_empty hsp] at h
    exact .inl ⟨hsp, by cases h; rfl⟩
  · cases htop : s.top with
    | none =>
      rw [exec_ret_of_no_top hsp htop] at h
      cases h
    | some w =>
      rw [exec_ret_of_top hsp htop] at h
      exact .inr ⟨w, hsp, rfl, by cases h; rfl⟩

theorem exec_sys_of_no_routine {s : State} (nnn : Addr) (h : s.cfg.mroutine = false) :
    exec (.sys nnn) s = .next s := if_neg (by simp [h])

theorem exec_sys_of_routine {s : State} (nnn : Addr) (h : s.cfg.mroutine = true) :
    exec (.sys nnn) s = .refused (.machineRoutineInstalled nnn) := if_pos h

theorem exec_sys_eq_next {s t : State} {nnn : Addr} (h : exec (.sys nnn) s = .next t) : t = s := by
  cases hm : s.cfg.mroutine with
  | false =>
    rw [exec_sys_of_no_routine nnn hm] at h
    cases h
    rfl
  | true =>
    rw [exec_sys_of_routine nnn hm] at h
    cases h

theorem exec_call_of_full {s : State} (nnn : Addr) (h : 15 < s.sp.toNat) :
    exec (.call nnn) s = .next (s.raise .stackOverflow) := if_pos h

theorem exec_call_of_room {s : State} (nnn : Addr) (h : s.sp.toNat < 16) :
    exec (.call nnn) s = .next (s.push.setPc (zextAddr nnn)) := if_neg (by omega)

theorem exec_call_cases {s t : State} {nnn : Addr} (h : exec (.call nnn) s = .next t) :
    (15 < s.sp.toNat ∧ t = s.raise .stackOverflow) ∨ (s.sp.toNat < 16 ∧ t = s.push.setPc (zextAddr nnn)) := by
  by_cases hsp : 15 < s.sp.toNat
  · rw [exec_call_of_full nnn hsp] at h
    exact .inl ⟨hsp, by cases h; rfl⟩
  · rw [exec_call_of_room nnn (by omega)] at h
    exact .inr ⟨by omega, by cases h; rfl⟩

/-! ### Logic, shifts, random (spec/42_alu.md) -/

theorem exec_or (x y : Nibble) (s : State) :
    exec (.or x y) s = .next (s.logic (fun a b => a ||| b) x y) := rfl

theorem exec_and (x y : Nibble) (s : State) :
    exec (.and x y) s = .next (s.logic (fun a b => a &&& b) x y) := rfl

theorem exec_xor (x y : Nibble) (s : State) :
    exec (.xor x y) s = .next (s.logic (fun a b => a ^^^ b) x y) := rfl

theorem exec_shr (x y : Nibble) (s : State) :
    exec (.shr x y) s = .next ((s.loadShiftOperand x y).flagThenShift x lowBitFlag (fun a => a >>> 1)) := rfl

theorem exec_shl (x y : Nibble) (s : State) :
    exec (.shl x y) s = .next ((s.loadShiftOperand x y).flagThenShift x highBitFlag (fun a => a <<< 1)) := rfl

theorem exec_rnd_of_byte {s : State} {b : Byte} (x : Nibble) (kk : Byte) (h : s.randAnswer = .byte b) :
    exec (.rnd x kk) s = .next (s.randAsked.setV x (b &&& kk)) := by
  simp [exec, execRnd, h]

theorem exec_rnd_of_failed {s : State} {f : PortFailure} (x : Nibble) (kk : Byte) (h : s.randAnswer = .failed f) :
    exec (.rnd x kk) s = .next (s.randAsked.raise (.rngFailure f)) := by
  simp [exec, execRnd, h]

theorem exec_rnd_cases {s t : State} {x : Nibble} {kk : Byte} (h : exec (.rnd x kk) s = .next t) :
    (∃ b, s.randAnswer = .byte b ∧ t = s.randAsked.setV x (b &&& kk)) ∨
      (∃ f, s.randAnswer = .failed f ∧ t = s.randAsked.raise (.rngFailure f)) := by
  cases ha : s.randAnswer with
  | byte b =>
    rw [exec_rnd_of_byte x kk ha] at h
    exact .inl ⟨b, rfl, by cases h; rfl⟩
  | failed f =>
    rw [exec_rnd_of_failed x kk ha] at h
    exact .inr ⟨f, rfl, by cases h; rfl⟩

/-! ### Index register and memory (spec/43_index_memory.md) -/

theorem exec_ldI (nnn : Addr) (s : State) : exec (.ldI nnn) s = .next (s.setI (zextAddr nnn)) := rfl

theorem exec_addI (x : Nibble) (s : State) : exec (.addI x) s = .next (s.setI (s.i + zextByte (s.getV x))) := rfl

theorem exec_ldF (x : Nibble) (s : State) : exec (.ldF x) s = .next (s.setI (fontAddr (s.getV x))) := rfl

theorem exec_ldB_in_memory {s : State} (x : Nibble) (h : s.i.toNat + 3 ≤ 4096) :
    exec (.ldB x) s =
      .next { s with mem := Memory.writeBytes s.cfg.font s.mem s.i.toNat (bcdDigits (s.getV x)) } := by
  have hw := s.memWrite_ok (a := s.indexAddr) (bs := bcdDigits (s.getV x)) h
  rw [exec, execLdB, hw]
  rfl

theorem exec_ldB_beyond_memory {s : State} (x : Nibble) (h : 4096 < s.i.toNat + 3) :
    exec (.ldB x) s = .next (s.raise (.memoryBounds s.i.toNat)) := by
  have hw := s.memWrite_error (a := s.indexAddr) (bs := bcdDigits (s.getV x)) h
  rw [exec, execLdB, hw]
  rfl

theorem exec_ldB_cases {s t : State} {x : Nibble} (h : exec (.ldB x) s = .next t) :
    (s.i.toNat + 3 ≤ 4096 ∧
      t = { s with mem := Memory.writeBytes s.cfg.font s.mem s.i.toNat (bcdDigits (s.getV x)) }) ∨
    t = s.raise (.memoryBounds s.i.toNat) := by
  by_cases hi : s.i.toNat + 3 ≤ 4096
  · rw [exec_ldB_in_memory x hi] at h
    exact .inl ⟨hi, by cases h; rfl⟩
  · rw [exec_ldB_beyond_memory x (by omega)] at h
    exact .inr (by cases h; rfl)

theorem exec_ldMemVx_in_memory {s : State} (x : Nibble) (h : s.i.toNat + x.toNat + 1 ≤ 4096) :
    exec (.ldMemVx x) s =
      .next (({ s with mem := Memory.writeBytes s.cfg.font s.mem s.i.toNat (s.regsUpTo x) } : State).advanceI x) := by
  have hw := s.memWrite_ok (a := s.indexAddr) (bs := s.regsUpTo x) (by rw [State.length_regsUpTo]; exact h)
  rw [exec, execLdMemVx, hw]
  rfl

theorem exec_ldMemVx_beyond_memory {s : State} (x : Nibble) (h : 4096 < s.i.toNat + x.toNat + 1) :
    exec (.ldMemVx x) s = .next (s.raise (.memoryBounds s.i.toNat)) := by
  have hw := s.memWrite_error (a := s.indexAddr) (bs := s.regsUpTo x) (by rw [State.length_regsUpTo]; exact h)
  rw [exec, execLdMemVx, hw]
  rfl

theorem exec_ldMemVx_cases {s t : State} {x : Nibble} (h : exec (.ldMemVx x) s = .next t) :
    (s.i.toNat + x.toNat + 1 ≤ 4096 ∧
      t = ({ s with mem := Memory.writeBytes s.cfg.font s.mem s.i.toNat (s.regsUpTo x) } : State).advanceI x) ∨
    t = s.raise (.memoryBounds s.i.toNat) := by
  by_cases hi : s.i.toNat + x.toNat + 1 ≤ 4096
  · rw [exec_ldMemVx_in_memory x hi] at h
    exact .inl ⟨hi, by cases h; rfl⟩
  · rw [exec_ldMemVx_beyond_memory x (by omega)] at h
    exact .inr (by cases h; rfl)

theorem exec_ldVxMem_in_memory {s : State} (x : Nibble) (h : s.i.toNat + x.toNat + 1 ≤ 4096) :
    exec (.ldVxMem x) s =
      .next ((s.setRegsFrom 0 (Memory.readBytes s.cfg.font s.mem s.i.toNat (x.toNat + 1))).advanceI x) := by
  have hr := s.memRead_ok (a := s.indexAddr) (n := transferCount x) (.inr h)
  rw [exec, execLdVxMem, hr]
  rfl

theorem exec_ldVxMem_beyond_memory {s : State} (x : Nibble) (h : 4096 < s.i.toNat + x.toNat + 1) :
    exec (.ldVxMem x) s = .next (s.raise (.memoryBounds s.i.toNat)) := by
  have hr := s.memRead_error (a := s.indexAddr) (n := transferCount x) (Nat.succ_pos _) h
  rw [exec, execLdVxMem, hr]
  rfl

theorem exec_ldVxMem_cases {s t : State} {x : Nibble} (h : exec (.ldVxMem x) s = .next t) :
    t = (s.setRegsFrom 0 (Memory.readBytes s.cfg.font s.mem s.i.toNat (x.toNat + 1))).advanceI x ∨
      t = s.raise (.memoryBounds s.i.toNat) := by
  by_cases hi : s.i.toNat + x.toNat + 1 ≤ 4096
  · rw [exec_ldVxMem_in_memory x hi] at h
    exact .inl (by cases h; rfl)
  · rw [exec_ldVxMem_beyond_memory x (by omega)] at h
    exact .inr (by cases h; rfl)

/-! ### Keyboard (spec/45_keys_timers.md) -/

theorem exec_skp (x : Nibble) (s : State) :
    exec (.skp x) s = .next ((s.keyPressedAsked (s.getV x)).skipIf (s.keyPressedAnswer (s.getV x))) := rfl

theorem exec_sknp (x : Nibble) (s : State) :
    exec (.sknp x) s = .next ((s.keyPressedAsked (s.getV x)).skipIf (!s.keyPressedAnswer (s.getV x))) := rfl

theorem exec_ldVxK (x : Nibble) (s : State) :
    exec (.ldVxK x) s = .next { s with waitingForKey := true, keyTarget := x } := rfl

/-! ### Screen (spec/44_draw.md) -/

theorem exec_cls (s : State) : exec .cls s = .next s.clearScreen := rfl

/-- The sprite that `Dxyn` reads. -/
def State.spriteBytes (s : State) (n : Nibble) : List Byte := Memory.readBytes s.cfg.font s.mem s.i.toNat n.toNat

theorem exec_drw_eq_of_in_memory {s : State} (x y : Nibble) {n : Nibble} (h : n = 0 ∨ s.i.toNat + n.toNat ≤ 4096) :
    exec (.drw x y n) s =
      if s.fb.length = s.cfg.fbLen then .next (s.draw (s.getV x) (s.getV y) (s.spriteBytes n))
      else .fault .framebufferSize := by
  have hr := s.memRead_ok (a := s.indexAddr) (n := n.toNat) (h.imp_left (by rintro rfl; rfl))
  rw [exec, execDrw, hr]
  rfl

theorem exec_drw_in_memory {s : State} (x y : Nibble) {n : Nibble} (h : n = 0 ∨ s.i.toNat + n.toNat ≤ 4096)
    (hfb : s.fb.length = s.cfg.fbLen) :
    exec (.drw x y n) s = .next (s.draw (s.getV x) (s.getV y) (s.spriteBytes n)) := by
  rw [exec_drw_eq_of_in_memory x y h, if_pos hfb]

theorem exec_drw_wrong_framebuffer {s : State} (x y : Nibble) {n : Nibble} (h : n = 0 ∨ s.i.toNat + n.toNat ≤ 4096)
    (hfb : s.fb.length ≠ s.cfg.fbLen) : exec (.drw x y n) s = .fault .framebufferSize := by
  rw [exec_drw_eq_of_in_memory x y h, if_neg hfb]

theorem exec_drw_beyond_memory {s : State} (x y : Nibble) {n : Nibble} (hn : n ≠ 0) (h : 4096 < s.i.toNat + n.toNat) :
    exec (.drw x y n) s = .next (s.raise (.memoryBounds s.i.toNat)) := by
  have hpos : 0 < n.toNat := Nat.pos_of_ne_zero fun h0 => hn (BitVec.eq_of_toNat_eq h0)
  have hr := s.memRead_error (a := s.indexAddr) hpos h
  rw [exec, execDrw, hr]
  rfl

theorem exec_drw_cases {s t : State} {x y n : Nibble} (h : exec (.drw x y n) s = .next t) :
    t = s.draw (s.getV x) (s.getV y) (s.spriteBytes n) ∨ t = s.raise (.memoryBounds s.i.toNat) := by
  by_cases hi : n = 0 ∨ s.i.toNat + n.toNat ≤ 4096
  · by_cases hfb : s.fb.length = s.cfg.fbLen
    · rw [exec_drw_in_memory x y hi hfb] at h
      exact .inl (by cases h; rfl)
    · rw [exec_drw_wrong_framebuffer x y hi hfb] at h
      cases h
  · rw [not_or, not_le] at hi
    rw [exec_drw_beyond_memory x y hi.1 hi.2] at h
    exact .inr (by cases h; rfl)

end Sys2Proof.Machine
end

section
/-! The machine invariant (spec/10_state.md, spec/20_memory.md R60): it holds at reset, each operation of the state keeps
it, and so do each instruction, each tick and each command. -/

namespace Sys2Proof.Machine

variable {s t : State}

/-! ### Stack pointer and program counter as naturals -/

theorem toNat_ne_zero {b : Byte} (hb : b ≠ 0) : b.toNat ≠ 0 := fun h0 => hb (BitVec.eq_of_toNat_eq h0)

theorem toNat_sub_one {b : Byte} (hb : b ≠ 0) : (b - 1).toNat = b.toNat - 1 := by
  have hpos := toNat_ne_zero hb
  bv_omega

theorem toNat_add_two {w : Word} (hw : w.toNat ≤ 0x1000) : (w + 2).toNat = w.toNat + 2 := by
  bv_omega

/-! ### The operations that instructions are made of -/

theorem State.Inv.emit (h : s.Inv) (e : Event) : (s.emit e).Inv := { h with }

theorem State.Inv.of_eq_registers (h : s.Inv) (ht : t = { s with v := t.v }) : t.Inv := by
  rw [ht]
  exact { h with }

theorem State.Inv.setI (h : s.Inv) (w : Word) : (s.setI w).Inv := { h with }

theorem State.Inv.advanceI (h : s.Inv) (x : Nibble) : (s.advanceI x).Inv := by
  rw [State.advanceI_eq]
  exact { h with }

theorem State.Inv.setPc (h : s.Inv) {w : Word} (hw : w.toNat ≤ 0x10FE) : (s.setPc w).Inv := { h with pcRange := hw }

/-- After a fetch `Pc` is at most 0x1000, so a skip cannot wrap. -/
theorem State.Inv.skipIf (h : s.Inv) (hpc : s.pc.toNat ≤ 0x1000) (c : Bool) : (s.skipIf c).Inv := by
  refine h.setPc ?_
  split
  · rw [toNat_add_two hpc]
    omega
  · omega

theorem State.Inv.push (h : s.Inv) (hpc : s.pc.toNat ≤ 0x1000) (hsp : s.sp.toNat < 16) : s.push.Inv :=
  { h with
    spRange := by
      rw [State.push_sp]
      bv_omega
    stackRange := by
      intro w hw
      rw [State.push_stack, Vector.toList_setIfInBounds] at hw
      obtain hmem | rfl := List.mem_or_eq_of_mem_set hw
      · exact h.stackRange w hmem
      · exact hpc }

theorem State.Inv.popTo (h : s.Inv) {w : Word} (hsp : s.sp ≠ 0) (htop : s.top = some w) : (s.popTo w).Inv := by
  have hw : w.toNat ≤ 0x1000 := by
    obtain ⟨hlt, rfl⟩ := Vector.getElem?_eq_some_iff.1 htop
    exact h.stackRange _ (by simp)
  have hsp' : (s.sp - 1).toNat ≤ 16 := by
    have hrange := h.spRange
    rw [toNat_sub_one hsp]
    omega
  exact { h with spRange := hsp', pcRange := by rw [State.popTo_pc]; omega }

theorem State.Inv.raise (h : s.Inv) {e : Error} (he : e.sticky = true) : (s.raise e).Inv :=
  { h with
    stored := by
      rintro e' ⟨⟩
      exact he }

theorem State.Inv.keyPressedAsked (h : s.Inv) (k : Byte) : (s.keyPressedAsked k).Inv := { h with }

theorem State.Inv.keyAnyAsked (h : s.Inv) : s.keyAnyAsked.Inv := { h with }

theorem State.Inv.randAsked (h : s.Inv) : s.randAsked.Inv := { h with }

theorem State.Inv.writeBytes (h : s.Inv) {a : Nat} {bs : List Byte} (ha : a + bs.length ≤ Config.memSize) :
    State.Inv { s with mem := Memory.writeBytes s.cfg.font s.mem a bs } :=
  { h with memWf := Memory.wf_writeBytes h.memWf ha }

theorem State.Inv.clearScreen (h : s.Inv) : s.clearScreen.Inv := { h with fbLen := List.length_replicate }

theorem State.Inv.draw (h : s.Inv) (cx cy : Byte) (bs : List Byte) : (s.draw cx cy bs).Inv := by
  rw [State.draw_eq]
  exact { h with fbLen := (length_drawRows ..).trans h.fbLen }

/-! ### Instructions -/

/-- An instruction entered after a fetch, outside a key wait, keeps the invariant. -/
theorem exec_keeps_inv {i : Instr} (h : s.Inv) (hpc : s.pc.toNat ≤ 0x1000) (hrel : s.waitingForRelease = false)
    (hexec : exec i s = .next t) : t.Inv := by
  cases i with
  | cls =>
    cases hexec
    exact h.clearScreen
  | ret =>
    obtain ⟨-, rfl⟩ | ⟨w, hsp, htop, rfl⟩ := exec_ret_cases hexec
    · exact h.raise rfl
    · exact h.popTo hsp htop
  | sys nnn =>
    rw [exec_sys_eq_next hexec]
    exact h
  | jp nnn =>
    cases hexec
    exact h.setPc (by rw [toNat_zextAddr]; have := nnn.isLt; omega)
  | call nnn =>
    obtain ⟨-, rfl⟩ | ⟨hsp, rfl⟩ := exec_call_cases hexec
    · exact h.raise rfl
    · exact (h.push hpc hsp).setPc (by rw [toNat_zextAddr]; have := nnn.isLt; omega)
  | jpV0 nnn =>
    cases hexec
    refine h.setPc ?_
    have hb := (s.jumpBase nnn).isLt
    have hn := nnn.isLt
    rw [toNat_zextByte_add_zextAddr]
    omega
  | seImm | sneImm | seReg | sneReg =>
    cases hexec
    exact h.skipIf hpc _
  | skp x | sknp x =>
    cases hexec
    exact (h.keyPressedAsked _).skipIf hpc _
  | ldImm | ldReg | ldVxDt | addImm | addReg | sub | subn =>
    cases hexec
    exact h.of_eq_registers rfl
  | or | and | xor =>
    cases hexec
    exact h.of_eq_registers (State.logic_eq ..)
  | shr | shl =>
    cases hexec
    exact (h.of_eq_registers (State.loadShiftOperand_eq ..)).of_eq_registers (State.flagThenShift_eq ..)
  | rnd x kk =>
    obtain ⟨b, -, rfl⟩ | ⟨f, -, rfl⟩ := exec_rnd_cases hexec
    · exact h.randAsked.of_eq_registers rfl
    · exact h.randAsked.raise rfl
  | ldI | addI | ldF =>
    cases hexec
    exact h.setI _
  | ldB x =>
    obtain ⟨hi, rfl⟩ | rfl := exec_ldB_cases hexec
    · exact h.writeBytes hi
    · exact h.raise rfl
  | ldMemVx x =>
    obtain ⟨hi, rfl⟩ | rfl := exec_ldMemVx_cases hexec
    · exact (h.writeBytes (by rw [State.length_regsUpTo]; exact hi)).advanceI x
    · exact h.raise rfl
  | ldVxMem x =>
    obtain rfl | rfl := exec_ldVxMem_cases hexec
    · exact (h.of_eq_registers (State.setRegsFrom_eq ..)).advanceI x
    · exact h.raise rfl
  | drw x y n =>
    obtain rfl | rfl := exec_drw_cases hexec
    · exact h.draw ..
    · exact h.raise rfl
  | ldVxK x =>
    cases hexec
    exact { h with oneWait := fun hw => by simp [hrel] at hw }
  | ldDtVx | ldStVx =>
    cases hexec
    exact { h with }

/-! ### Ticks -/

theorem State.Inv.endTick (h : s.Inv) (done : Bool) (err : Option Error) : (s.endTick done err).Inv := { h with }

theorem State.Inv.tickNotBooted (h : s.Inv) : s.tickNotBooted.Inv := { h with }

/-- A key that is reported ends the press phase as it begins the release phase. -/
theorem State.Inv.keyWaitStep (h : s.Inv) : s.keyWaitStep.Inv := by
  unfold State.keyWaitStep
  split
  · split
    · exact { h with oneWait := fun hw => by simp at hw }
    · exact h.keyAnyAsked
  · split
    · exact h.keyPressedAsked _
    · exact { h with oneWait := fun hw => by simp at hw }

theorem State.Inv.endCycle (h : s.Inv) : s.endCycle.Inv := by
  have hstored : ∀ e, s.endCycle.lastError = some e → e.sticky = true := by
    obtain hsame | ⟨f, hf⟩ := s.endCycle_lastError
    · rw [hsame]
      exact h.stored
    · rw [hf]
      rintro e ⟨⟩
      rfl
  rw [State.endCycle_eq]
  exact { h with stored := hstored }

/-- The state after a fetch. -/
theorem State.Inv.fetched (h : s.Inv) (hpc : s.pc.toNat + 1 < 4096) :
    State.Inv { s with ir := s.fetchedWord, pc := s.pc + 2 } ∧ (s.pc + 2).toNat ≤ 0x1000 := by
  have hle : (s.pc + 2).toNat ≤ 0x1000 := by
    rw [toNat_add_two (by omega)]
    omega
  exact ⟨{ h with pcRange := hle.trans (by decide) }, hle⟩

theorem cycle_keeps_inv (h : s.Inv) (hrel : s.waitingForRelease = false) (hcycle : cycle s = .next t) : t.Inv := by
  obtain ⟨-, rfl⟩ | ⟨hpc, u, hu, rfl⟩ := cycle_cases hcycle
  · exact (h.raise rfl).endTick ..
  · obtain ⟨hinv, hle⟩ := h.fetched hpc
    refine State.Inv.endCycle ?_
    obtain ⟨i, -, hexec⟩ | rfl := execute_cases hu
    · exact exec_keeps_inv hinv hle hrel hexec
    · exact hinv.raise rfl

theorem tick_keeps_inv {bypass : Bool} (h : s.Inv) (htick : tick bypass s = .next t) : t.Inv := by
  obtain ⟨-, rfl⟩ | ⟨-, e, -, rfl⟩ | ⟨-, -, -, -, rfl⟩ | ⟨-, -, -, rfl⟩ | ⟨-, -, -, hrel, hcycle⟩ := tick_cases htick
  · exact h.tickNotBooted
  · exact h.endTick ..
  · exact (h.emit _).endTick ..
  · exact ((h.emit _).keyWaitStep.emit _).endTick ..
  · exact cycle_keeps_inv ((h.emit _).emit _) hrel hcycle

/-! ### Commands -/

/-- Power-on in a legal configuration, which restart, LoadProgram and reset start from. -/
theorem State.Inv.of_powerOn {q : BitVec 5} {c : Configuration} (hok : c.ok = true) : (State.powerOn q c).Inv where
  memWf := rfl
  cfgOk := hok
  fbLen := List.length_replicate
  spRange := Nat.zero_le _
  pcRange := Nat.zero_le _
  stackRange := by simp [State.powerOn]
  oneWait := fun hw => by simp [State.powerOn] at hw
  stored := fun e he => by simp [State.powerOn] at he

theorem State.Inv.restart (h : s.Inv) : s.restart.Inv := { State.Inv.of_powerOn (q := s.q) h.cfgOk with }

theorem State.Inv.loadProgram (h : s.Inv) (p : List Byte) : (s.loadProgram p).Inv := by
  unfold State.loadProgram
  split
  · exact h.emit _
  · next hfits =>
    have hmem : Memory.wf s.cfg.font (Memory.writeBytes s.cfg.font [] Config.progBase p) = true :=
      Memory.wf_writeBytes Memory.wf_nil (Nat.add_le_add_left (not_lt.1 hfits) Config.progBase)
    have hloaded : (s.loaded p).Inv :=
      { State.Inv.of_powerOn (q := s.q) h.cfgOk with
        memWf := hmem
        pcRange := (by decide : (0x200#16 : Word).toNat ≤ 0x10FE) }
    exact hloaded.emit _

theorem State.Inv.bootPorts (h : s.Inv) (ps : List Port) : (s.bootPorts ps).2.Inv := by
  induction ps generalizing s with
  | nil => exact h
  | cons p ps ih =>
    have hasked : (s.portBootAsked p).Inv := { h with }
    rw [State.bootPorts]
    split
    · exact ih hasked
    · exact hasked

theorem State.Inv.boot (h : s.Inv) (run : Bool) : (s.boot run).Inv := by
  have hports := h.bootPorts [.display, .keyboard, .buzzer]
  unfold State.boot
  split
  · exact h.emit _
  · split
    all_goals
      next heq =>
        rw [heq] at hports
        exact { hports with }

theorem State.length_resizedFb {c : Configuration} (h : s.fb.length = s.cfg.fbLen) :
    (s.resizedFb c).length = c.fbLen := by
  unfold State.resizedFb
  split
  · next hsame => rw [h, Configuration.fbLen, Configuration.fbLen, hsame.1, hsame.2]
  · simp

/-- The canonical form of memory is relative to FONT, which no command rewrites. -/
theorem reconfigure_keeps_inv {q : BitVec 5} {c : Configuration} (h : s.Inv) (hnext : reconfigure q c s = .next t)
    (hfont : c.font = s.cfg.font) : t.Inv := by
  unfold reconfigure at hnext
  split at hnext
  · cases hnext
  · split at hnext
    · next hok =>
      cases hnext
      rw [Bool.and_eq_true] at hok
      exact { h with
        memWf := by rw [hfont]; exact h.memWf
        cfgOk := hok.1
        fbLen := State.length_resizedFb h.fbLen }
    · cases hnext

theorem command_keeps_inv {c : Command} (h : s.Inv) (hnext : command c s = .next t) : t.Inv := by
  cases c with
  | powerOn =>
    cases hnext
    exact h.restart
  | boot run =>
    cases hnext
    exact h.boot run
  | loadProgram p =>
    cases hnext
    exact h.loadProgram p
  | start | stop | loop =>
    cases hnext
    exact { h with }
  | loopOnce | singleFrame => exact tick_keeps_inv h hnext
  | setQuirks | setCpf | setScreen | setSpeed => exact reconfigure_keeps_inv h hnext rfl
  | snapshot =>
    cases hnext
    exact h.emit _

/-- Settles O8: the parts of the state that the invariant speaks of are written by few operations, and each keeps it. -/
theorem stepKeepsTheInvariant : Obligations.StepKeepsTheInvariant := by
  unfold Obligations.StepKeepsTheInvariant
  intro s t h hstep
  have hstart : ∀ cs, State.Inv { s with commands := cs, out := [] } := fun cs => { h with }
  obtain ⟨-, ⟨c, cs, -, hcommand⟩ | ⟨-, -, htick⟩ | ⟨-, -, rfl⟩⟩ := step_cases hstep
  · exact command_keeps_inv (hstart cs) hcommand
  · exact tick_keeps_inv (hstart s.commands) htick
  · exact hstart s.commands

/-- Settles O7: the reset state is a powered-on core with `Pc` at the program base. -/
theorem resetMeetsTheInvariant : Obligations.ResetMeetsTheInvariant := by
  unfold Obligations.ResetMeetsTheInvariant
  exact { State.Inv.of_powerOn (q := Config.defaultQuirks) (c := Configuration.default) (by decide) with
    pcRange := by decide }

end Sys2Proof.Machine
end

section
/-! What an instruction may write (spec/10_state.md R20 to R28, spec/20_memory.md R62, spec/44_draw.md R200) and what it has
written when it raises an error (spec/60_exceptions.md R309): one equation that leaves free only the fields that the lists
of Sys2Proof/Safety.lean name, and the ways the error field changes. -/

namespace Sys2Proof

/-! ### The writers that Safety.lean has no list of -/

/-- The writer of `Dt` (spec/45_keys_timers.md R235). -/
def Instr.writesDt : Instr → Bool
  | .ldDtVx _ => true
  | _ => false

/-- The writer of `St` (spec/45_keys_timers.md R236). -/
def Instr.writesSt : Instr → Bool
  | .ldStVx _ => true
  | _ => false

/-- The instruction that begins a key wait (spec/45_keys_timers.md R233). -/
def Instr.beginsKeyWait : Instr → Bool
  | .ldVxK _ => true
  | _ => false

theorem Instr.writesDt_eq_false {i : Instr} (h : ∀ x, i ≠ .ldDtVx x) : i.writesDt = false := by
  cases i with
  | ldDtVx x => exact absurd rfl (h x)
  | _ => rfl

theorem Instr.writesSt_eq_false {i : Instr} (h : ∀ x, i ≠ .ldStVx x) : i.writesSt = false := by
  cases i with
  | ldStVx x => exact absurd rfl (h x)
  | _ => rfl

theorem Instr.beginsKeyWait_eq_false {i : Instr} (h : ∀ x, i ≠ .ldVxK x) : i.beginsKeyWait = false := by
  cases i with
  | ldVxK x => exact absurd rfl (h x)
  | _ => rfl

end Sys2Proof

namespace Sys2Proof.Machine

variable {s t : State} {i : Instr}

/-! ### The frame of every instruction -/

/-- `s` with the fields that instruction `i` may write under some quirks taken from `t`. -/
def State.withWritten (s : State) (i : Instr) (t : State) : State :=
  { s with
    v := t.v
    i := if i.writesI true then t.i else s.i
    pc := if i.writesPc then t.pc else s.pc
    sp := if i.usesStack then t.sp else s.sp
    stack := if i.usesStack then t.stack else s.stack
    dt := if i.writesDt then t.dt else s.dt
    st := if i.writesSt then t.st else s.st
    mem := if i.storesMemory then t.mem else s.mem
    fb := if i.writesScreen then t.fb else s.fb
    dirty := if i.writesScreen then t.dirty else s.dirty
    waitingForKey := if i.beginsKeyWait then t.waitingForKey else s.waitingForKey
    keyTarget := if i.beginsKeyWait then t.keyTarget else s.keyTarget
    lastError := t.lastError
    env := if i.asksPort then t.env else s.env
    draws := if i.asksPort then t.draws else s.draws
    out := t.out }

theorem exec_frame (h : exec i s = .next t) : t = s.withWritten i t := by
  cases i with
  | ret => obtain ⟨-, rfl⟩ | ⟨w, -, -, rfl⟩ := exec_ret_cases h <;> rfl
  | sys nnn =>
    rw [exec_sys_eq_next h]
    rfl
  | call nnn => obtain ⟨-, rfl⟩ | ⟨-, rfl⟩ := exec_call_cases h <;> rfl
  | or | and | xor =>
    cases h
    rw [State.logic_eq]
    rfl
  | shr | shl =>
    cases h
    rw [State.loadShiftOperand_eq]
    rfl
  | rnd x kk => obtain ⟨b, -, rfl⟩ | ⟨f, -, rfl⟩ := exec_rnd_cases h <;> rfl
  | drw x y n => obtain rfl | rfl := exec_drw_cases h <;> rfl
  | ldB x => obtain ⟨-, rfl⟩ | rfl := exec_ldB_cases h <;> rfl
  | ldMemVx x =>
    obtain ⟨-, rfl⟩ | rfl := exec_ldMemVx_cases h
    · rw [State.advanceI_eq]
      rfl
    · rfl
  | ldVxMem x =>
    obtain rfl | rfl := exec_ldVxMem_cases h
    · rw [State.advanceI_eq, State.setRegsFrom_eq]
      rfl
    · rfl
  | _ =>
    cases h
    rfl

/-- Settles O56, by the frame; a read depends on memory and FONT only. -/
theorem onlyStoresChangeMemory : Obligations.OnlyStoresChangeMemory := by
  unfold Obligations.OnlyStoresChangeMemory
  intro i s t h hstores
  have hframe := exec_frame h
  have hmem : t.mem = s.mem := by
    rw [hframe]
    simp [State.withWritten, hstores]
  have hcfg : t.cfg = s.cfg := by rw [hframe]; rfl
  exact ⟨hmem, fun a => by rw [State.readByte, State.readByte, hmem, hcfg]⟩

/-- With MEM_ADV_I off, `Fx55` and `Fx65` leave `I` too. -/
theorem exec_i_eq (h : exec i s = .next t) (hi : i.writesI s.memAdvI = false) : t.i = s.i := by
  cases i with
  | ldMemVx x =>
    obtain ⟨-, rfl⟩ | rfl := exec_ldMemVx_cases h
    · rw [State.advanceI_eq]
      exact if_neg (ne_true_of_eq_false hi)
    · rfl
  | ldVxMem x =>
    obtain rfl | rfl := exec_ldVxMem_cases h
    · rw [State.advanceI_eq, State.setRegsFrom_eq]
      exact if_neg (ne_true_of_eq_false hi)
    · rfl
  | ldI | addI | ldF => cases hi
  | _ =>
    rw [exec_frame h]
    rfl

/-- Settles O58, by the frame and, for `I`, the two instructions that a quirk decides. -/
theorem pcStackIndexAndScreenHaveFewWriters : Obligations.PcStackIndexAndScreenHaveFewWriters := by
  unfold Obligations.PcStackIndexAndScreenHaveFewWriters
  intro i s t h
  refine ⟨fun hpc => ?_, fun hstack => ?_, exec_i_eq h, fun hscreen => ?_⟩
  all_goals rw [exec_frame h]
  · simp [State.withWritten, hpc]
  · simp [State.withWritten, hstack]
  · simp [State.withWritten, hscreen]

/-- Settles O59, by the frame. -/
theorem noInstructionChangesControlState : Obligations.NoInstructionChangesControlState := by
  unfold Obligations.NoInstructionChangesControlState
  intro i s t h
  rw [exec_frame h]
  refine ⟨by simp [State.withWritten], fun hdt => ?_, fun hst => ?_, fun hwait => ?_, fun hport => ?_⟩
  · simp [State.withWritten, Instr.writesDt_eq_false hdt]
  · simp [State.withWritten, Instr.writesSt_eq_false hst]
  · simp [State.withWritten, Instr.beginsKeyWait_eq_false hwait]
  · simp [State.withWritten, hport]

/-! ### Registers -/

@[simp] theorem State.getV_advanceI (s : State) (x r : Nibble) : (s.advanceI x).getV r = s.getV r := by
  rw [State.advanceI_eq]
  rfl

theorem State.getV_logic (s : State) (op : Byte → Byte → Byte) (x y r : Nibble) :
    (s.logic op x y).getV r =
      if r = x then op (s.resetVF.getV x) (s.resetVF.getV y) else s.resetVF.getV r := State.getV_setV ..

theorem State.getV_draw_of_ne (s : State) (cx cy : Byte) (bs : List Byte) {r : Nibble} (hr : r ≠ 15#4) :
    (s.draw cx cy bs).getV r = s.getV r := by
  unfold State.draw
  rw [State.getV_setVF, if_neg hr]
  rfl

/-- Settles O57: the writers of registers are taken one by one; the others leave the register file as it is. -/
theorem registersChangeOnlyAsDestinationOrFlag : Obligations.RegistersChangeOnlyAsDestinationOrFlag := by
  unfold Obligations.RegistersChangeOnlyAsDestinationOrFlag
  intro i s t r h hr
  cases i with
  | ldImm | addImm | ldReg | ldVxDt =>
    cases h
    exact s.getV_setV_of_ne _ (by simpa [Instr.writesV] using hr)
  | rnd x kk =>
    obtain ⟨b, -, rfl⟩ | ⟨f, -, rfl⟩ := exec_rnd_cases h
    · exact State.getV_setV_of_ne s.randAsked _ (by simpa [Instr.writesV] using hr)
    · rfl
  | or | and | xor =>
    cases h
    obtain ⟨hx, hVF⟩ : r ≠ _ ∧ ¬(s.vfReset = true ∧ r = 15#4) := by simpa [Instr.writesV, State.vfReset] using hr
    rw [State.getV_logic, if_neg hx, State.getV_resetVF, if_neg hVF]
  | addReg | sub | subn =>
    cases h
    obtain ⟨hx, hVF⟩ : r ≠ _ ∧ r ≠ 15#4 := by simpa [Instr.writesV] using hr
    exact s.resultThenFlag_frame _ _ hx hVF
  | shr | shl =>
    cases h
    obtain ⟨hx, hVF⟩ : r ≠ _ ∧ r ≠ 15#4 := by simpa [Instr.writesV] using hr
    rw [State.getV_flagThenShift, if_neg hx, if_neg hVF, State.getV_loadShiftOperand, if_neg fun hload => hx hload.2]
  | drw x y n =>
    obtain rfl | rfl := exec_drw_cases h
    · exact s.getV_draw_of_ne _ _ _ (by simpa [Instr.writesV] using hr)
    · rfl
  | ldVxMem x =>
    obtain rfl | rfl := exec_ldVxMem_cases h
    · have hr' : x.toNat < r.toNat := by simpa [Instr.writesV] using hr
      rw [State.getV_advanceI, State.getV_setRegsFrom, Memory.length_readBytes, if_neg (by omega)]
    · rfl
  | ret => obtain ⟨-, rfl⟩ | ⟨w, -, -, rfl⟩ := exec_ret_cases h <;> rfl
  | sys nnn => rw [exec_sys_eq_next h]
  | call nnn => obtain ⟨-, rfl⟩ | ⟨-, rfl⟩ := exec_call_cases h <;> rfl
  | ldB x => obtain ⟨-, rfl⟩ | rfl := exec_ldB_cases h <;> rfl
  | ldMemVx x =>
    obtain ⟨-, rfl⟩ | rfl := exec_ldMemVx_cases h
    · rw [State.getV_advanceI]
      rfl
    · rfl
  | _ =>
    cases h
    rfl

/-! ### Errors -/

/-- An instruction leaves the error field alone, or raises an error on the state it was entered with, the question to the
random-byte port asked if it asked one. -/
theorem exec_error_cases (h : exec i s = .next t) :
    t.lastError = s.lastError ∨ ∃ (u : State) (e : Error), (u = s ∨ u = s.randAsked) ∧ t = u.raise e := by
  cases i with
  | ret =>
    obtain ⟨-, rfl⟩ | ⟨w, -, -, rfl⟩ := exec_ret_cases h
    · exact .inr ⟨s, _, .inl rfl, rfl⟩
    · exact .inl rfl
  | sys nnn =>
    rw [exec_sys_eq_next h]
    exact .inl rfl
  | call nnn =>
    obtain ⟨-, rfl⟩ | ⟨-, rfl⟩ := exec_call_cases h
    · exact .inr ⟨s, _, .inl rfl, rfl⟩
    · exact .inl rfl
  | rnd x kk =>
    obtain ⟨b, -, rfl⟩ | ⟨f, -, rfl⟩ := exec_rnd_cases h
    · exact .inl rfl
    · exact .inr ⟨s.randAsked, _, .inr rfl, rfl⟩
  | drw x y n =>
    obtain rfl | rfl := exec_drw_cases h
    · exact .inl rfl
    · exact .inr ⟨s, _, .inl rfl, rfl⟩
  | ldB x =>
    obtain ⟨-, rfl⟩ | rfl := exec_ldB_cases h
    · exact .inl rfl
    · exact .inr ⟨s, _, .inl rfl, rfl⟩
  | ldMemVx x =>
    obtain ⟨-, rfl⟩ | rfl := exec_ldMemVx_cases h
    · exact .inl (by rw [State.advanceI_eq])
    · exact .inr ⟨s, _, .inl rfl, rfl⟩
  | ldVxMem x =>
    obtain rfl | rfl := exec_ldVxMem_cases h
    · exact .inl (by rw [State.advanceI_eq, State.setRegsFrom_eq])
    · exact .inr ⟨s, _, .inl rfl, rfl⟩
  | or | and | xor =>
    cases h
    exact .inl (by rw [State.logic_eq])
  | shr | shl =>
    cases h
    exact .inl (by rw [State.loadShiftOperand_eq]; rfl)
  | _ =>
    cases h
    exact .inl rfl

/-- Settles O60: raising writes the error and its strobe, and what it is raised on is the state at entry. -/
theorem errorsArePrecise : Obligations.ErrorsArePrecise := by
  unfold Obligations.ErrorsArePrecise
  intro i s t e h hnone hsome
  obtain hsame | ⟨u, e', hu, rfl⟩ := exec_error_cases h
  · rw [hsame, hnone] at hsome
    cases hsome
  · cases hsome
    refine ⟨?frame, by simp⟩
    obtain rfl | rfl := hu <;> rfl

end Sys2Proof.Machine
end

section
/-! The ticks (spec/48_scheduler.md): a cycle by what the fetch finds at `Pc`, the rest of a tick by whether an error is
stored and a frame boundary is due, and the two phases of a key wait. -/

namespace Sys2Proof.Machine

variable {s u : State} {cs : List Command} {i : Instr}

/-! ### A cycle -/

/-- What is left of a tick once its instruction has answered. -/
def afterExec : Host.Outcome State Fault Refusal → Host.Outcome State Fault Refusal
  | .next u => .next u.endCycle
  | .fault r => .fault r
  | .refused r => .refused r

theorem cycle_of_instr (hpc : s.pc.toNat + 1 < 4096) (hi : decodeWord s.fetchedWord = .ok i) :
    cycle s = afterExec (exec i { s with ir := s.fetchedWord, pc := s.pc + 2 }) := by
  obtain ⟨hbeyond, -⟩ | ⟨-, hfetch⟩ := s.fetch_cases
  · exact absurd hpc (not_lt.2 hbeyond)
  · rw [cycle, hfetch]
    dsimp only
    rw [execute, hi]
    dsimp only
    cases exec i { s with ir := s.fetchedWord, pc := s.pc + 2 } <;> rfl

theorem cycle_of_unknown {r : Reject} (hpc : s.pc.toNat + 1 < 4096) (hr : decodeWord s.fetchedWord = .error r) :
    cycle s =
      .next ((({ s with ir := s.fetchedWord, pc := s.pc + 2 } : State).raise
        (.unknownOpcode s.fetchedWord (s.pc + 2))).endCycle) := by
  obtain ⟨hbeyond, -⟩ | ⟨-, hfetch⟩ := s.fetch_cases
  · exact absurd hpc (not_lt.2 hbeyond)
  · rw [cycle, hfetch]
    dsimp only
    rw [execute, hr]

theorem cycle_beyond_memory (hpc : 4096 ≤ s.pc.toNat + 1) :
    cycle s = .next ((s.raise (.memoryBounds s.pc.toNat)).endTick false (some (.memoryBounds s.pc.toNat))) := by
  obtain ⟨-, hfetch⟩ | ⟨hin, -⟩ := s.fetch_cases
  · rw [cycle, hfetch]
  · exact absurd hpc (not_le.2 hin)

/-! ### The rest of a tick -/

/-- A tick that returns an error ends the Loop and the run. -/
theorem State.endTick_error (s : State) (e : Error) :
    s.endTick false (some e) =
      { s with looping := false, inRun := false, out := s.out ++ [.tickResult false (some e)] } := by
  simp [State.endTick_eq]

theorem State.endTick_no_error (s : State) (done : Bool) :
    s.endTick done none =
      { s with
        looping := s.looping && !done, inRun := s.inRun && !done, out := s.out ++ [.tickResult done none] } := by
  simp [State.endTick_eq]

theorem State.endCycle_of_error {e : Error} (h : s.lastError = some e) : s.endCycle = s.endTick false (some e) := by
  rw [State.endCycle, h]

/-- No frame boundary is due. -/
theorem State.endCycle_off_boundary (h : s.lastError = none) (hdue : (s.cycles + 1) % s.cfg.cpf ≠ 0) :
    s.endCycle = (s.countCycle.emit (.strobe .afterFrame)).endTick s.pastEnd none := by
  have hb : s.countCycle.boundaryIfDue = s.countCycle := if_neg hdue
  have he : s.countCycle.lastError = none := h
  rw [State.endCycle, h]
  dsimp only
  rw [State.afterInstruction, hb, he]

theorem State.boundaryIfDue_of_due (hdue : (s.cycles + 1) % s.cfg.cpf = 0) :
    s.countCycle.boundaryIfDue = s.countCycle.frameBoundary := if_pos hdue

theorem State.endCycle_at_boundary (h : s.lastError = none) (hdue : (s.cycles + 1) % s.cfg.cpf = 0)
    (hb : s.countCycle.frameBoundary.lastError = none) :
    s.endCycle = (s.countCycle.frameBoundary.emit (.strobe .afterFrame)).endTick s.pastEnd none := by
  rw [State.endCycle, h]
  dsimp only
  rw [State.afterInstruction, State.boundaryIfDue_of_due hdue, hb]

theorem State.endCycle_at_failed_boundary {e : Error} (h : s.lastError = none) (hdue : (s.cycles + 1) % s.cfg.cpf = 0)
    (hb : s.countCycle.frameBoundary.lastError = some e) :
    s.endCycle = s.countCycle.frameBoundary.endTick false (some e) := by
  rw [State.endCycle, h]
  dsimp only
  rw [State.afterInstruction, State.boundaryIfDue_of_due hdue, hb]

theorem State.strobeBuzzer_eq (s : State) :
    s.strobeBuzzer = { s with out := s.out ++ if 0 < s.st.toNat then [.play] else [] } := by
  unfold State.strobeBuzzer
  split <;> simp [State.emit]

theorem decay_pos_iff (t : Byte) : 0 < (decay t).toNat ↔ 1 < t.toNat := by
  rw [toNat_decay]
  omega

/-- The state in which a frame boundary renders: the cycle counted, the timers decayed, the Buzzer strobed (R258, R261,
R262). -/
def State.beforePush (s : State) : State :=
  { s with
    dt := decay s.dt
    st := decay s.st
    cycles := s.cycles + 1
    out := s.out ++ [.strobe .afterCycle] ++ if 1 < s.st.toNat then [.play] else [] }

theorem State.frameBoundary_countCycle (s : State) : s.countCycle.frameBoundary = s.beforePush.pushFrame := by
  rw [State.frameBoundary, State.strobeBuzzer_eq]
  simp only [State.decayTimers_st, State.countCycle_st, decay_pos_iff]
  rfl

theorem State.pushFrame_of_clean (h : s.dirty = false) : s.pushFrame = { s with frames := s.frames + 1 } :=
  if_neg (by simp [h])

theorem State.pushFrame_of_rendered (h : s.dirty = true) (ha : s.renderAnswer = .rendered) :
    s.pushFrame = { s.renderAsked with dirty := false, frames := s.frames + 1 } := by
  refine (if_pos h).trans ?_
  rw [ha]

theorem State.pushFrame_of_failed {f : PortFailure} (h : s.dirty = true) (ha : s.renderAnswer = .failed f) :
    s.pushFrame = s.renderAsked.raise (.displayFailure f) := by
  refine (if_pos h).trans ?_
  rw [ha]

/-! ### Ticks that run an instruction -/

theorem State.eq_of_out_eq {t u : State} (hframe : t = { u with out := t.out }) (hout : t.out = u.out) : t = u := by
  rw [hframe, hout]

theorem State.AtInstr.decodeWord_entered (h : s.AtInstr i) : decodeWord (s.entered cs).ir = .ok i := by
  have hbytes := h.2
  unfold decodeBytes at hbytes
  dsimp only at hbytes
  split at hbytes
  · next hdecode =>
    cases hbytes
    exact hdecode
  · cases hbytes

/-- The state in which a tick that fetches begins its cycle: the command that forced it taken, its two strobes put out. -/
def State.fetching (s : State) (cs : List Command) : State :=
  { s with commands := cs, out := [.strobe .beforeFrame, .strobe .beforeCycle] }

theorem State.Ready.step_eq_cycle (h : s.Ready cs) : step s = cycle (s.fetching cs) := h.step_eq

theorem State.Ready.step_of_instr (h : s.Ready cs) (hi : s.AtInstr i) :
    step s = afterExec (exec i (s.entered cs)) := by
  rw [h.step_eq_cycle]
  exact cycle_of_instr (s := s.fetching cs) hi.1 (hi.decodeWord_entered (cs := cs))

theorem State.Ready.step_of_next (h : s.Ready cs) (hi : s.AtInstr i) (hexec : exec i (s.entered cs) = .next u) :
    step s = .next u.endCycle := by
  rw [h.step_of_instr hi, hexec]
  rfl

/-- Settles O10: a tick that fetches is a cycle, and the fetch finds the word of `i`. -/
theorem stepRunsTheDecodedInstruction : Obligations.StepRunsTheDecodedInstruction := by
  unfold Obligations.StepRunsTheDecodedInstruction
  intro s i cs hready hat
  rw [hready.step_of_instr hat]
  cases exec i (s.entered cs) <;> rfl

/-- Settles O11: with no boundary due, the count and the done test are all that is left. -/
theorem completedInstructionTick : Obligations.CompletedInstructionTick := by
  unfold Obligations.CompletedInstructionTick
  intro s u i cs hready hat hexec herror hdue
  rw [hready.step_of_next hat hexec, State.endCycle_off_boundary herror hdue, State.endTick_no_error]
  exact congrArg _ (State.eq_of_out_eq rfl (by simp [State.pastEnd]))

/-- Settles O12: what the tick writes besides the counters and the timers depends on whether a render is due. -/
theorem frameBoundaryTick : Obligations.FrameBoundaryTick := by
  unfold Obligations.FrameBoundaryTick
  intro s u i cs hready hat hexec herror hdue hrender
  have hpush := u.frameBoundary_countCycle
  refine ⟨_, hready.step_of_next hat hexec, ?_⟩
  cases hdirty : u.dirty with
  | false =>
    rw [State.pushFrame_of_clean (s := u.beforePush) hdirty] at hpush
    rw [State.endCycle_at_boundary herror hdue (by rw [hpush]; exact herror), hpush, State.endTick_no_error]
    refine ⟨?frame, toNat_decay u.dt, toNat_decay u.st, ?out⟩
    case frame => simp [State.emit, State.beforePush, State.pastEnd, hdirty]
    case out => simp [State.beforePush, State.pastEnd]
  | true =>
    have hanswer : u.beforePush.renderAnswer = .rendered := hrender.resolve_left (by simp [hdirty])
    rw [State.pushFrame_of_rendered (s := u.beforePush) hdirty hanswer] at hpush
    rw [State.endCycle_at_boundary herror hdue (by rw [hpush]; exact herror), hpush, State.endTick_no_error]
    refine ⟨rfl, toNat_decay u.dt, toNat_decay u.st, ?out⟩
    case out =>
      rw [State.emit_out, State.renderAsked_out, hanswer]
      simp [State.beforePush, State.pastEnd]

/-- Settles O13: the render comes after the timers and the Buzzer and before the frame counter. -/
theorem renderFailureTick : Obligations.RenderFailureTick := by
  unfold Obligations.RenderFailureTick
  intro s u i f cs hready hat hexec herror hdue hdirty hfailed
  have hpush := u.frameBoundary_countCycle
  have hanswer : u.beforePush.renderAnswer = .failed f := hfailed
  rw [State.pushFrame_of_failed (s := u.beforePush) hdirty hanswer] at hpush
  refine ⟨_, hready.step_of_next hat hexec, ?_⟩
  rw [State.endCycle_at_failed_boundary herror hdue (by rw [hpush]; rfl), hpush, State.endTick_error]
  refine ⟨rfl, toNat_decay u.dt, toNat_decay u.st, ?out⟩
  case out =>
    rw [State.raise_out, State.renderAsked_out, hanswer]
    simp [State.beforePush]

/-- Settles O14: with an error stored, returning it is all that is left. -/
theorem raisedErrorEndsTheTick : Obligations.RaisedErrorEndsTheTick := by
  unfold Obligations.RaisedErrorEndsTheTick
  intro s u i e cs hready hat hexec herror
  rw [hready.step_of_next hat hexec, State.endCycle_of_error herror, State.endTick_error]

/-! ### Ticks that run none -/

/-- Settles O15: the error is raised on the state after the fetch. -/
theorem unknownWordTick : Obligations.UnknownWordTick := by
  unfold Obligations.UnknownWordTick
  intro s cs hready hpc hunknown
  refine ⟨s.pc + 2, ?_⟩
  rw [hready.step_eq_cycle, cycle_of_unknown (s := s.fetching cs) hpc hunknown, State.endCycle_of_error rfl,
    State.endTick_error]
  rfl

/-- Settles O16: the fetch answers the error before it writes `Ir` and `Pc`. -/
theorem fetchBeyondMemoryTick : Obligations.FetchBeyondMemoryTick := by
  unfold Obligations.FetchBeyondMemoryTick
  intro s cs hready hpc
  rw [hready.step_eq_cycle, cycle_beyond_memory (s := s.fetching cs) hpc, State.endTick_error]
  rfl

/-- Settles O17: the stored error is returned before the first strobe. -/
theorem haltedTickReturnsTheError : Obligations.HaltedTickReturnsTheError := by
  unfold Obligations.HaltedTickReturnsTheError
  intro s e cs hissued hbooted herror
  rw [hissued.step_eq]
  simp [tick, hbooted, herror, State.endTick_error]

/-- Settles O18: the Boot test is the first of a tick, and its error is put out but not stored. -/
theorem notBootedTickChangesNothing : Obligations.NotBootedTickChangesNothing := by
  unfold Obligations.NotBootedTickChangesNothing
  intro s cs hissued hbooted
  rw [hissued.step_eq]
  simp [tick, hbooted, State.tickNotBooted, State.emit]

/-! ### The key wait -/

theorem State.keyWaitStep_of_press (h : s.waitingForKey = true) {key : Byte} (ha : s.keyAnyAnswer = some key) :
    s.keyWaitStep =
      { s.keyAnyAsked.setV s.keyTarget key with
        heldKey := key, waitingForKey := false, waitingForRelease := true } := by
  rw [State.keyWaitStep, if_pos h, ha]

theorem State.keyWaitStep_of_no_press (h : s.waitingForKey = true) (ha : s.keyAnyAnswer = none) :
    s.keyWaitStep = s.keyAnyAsked := by
  rw [State.keyWaitStep, if_pos h, ha]

theorem State.keyWaitStep_of_release (h : s.waitingForKey = false) (hr : s.waitingForRelease = true) :
    s.keyWaitStep = { s.keyPressedAsked s.heldKey with waitingForRelease := s.keyPressedAnswer s.heldKey } := by
  rw [State.keyWaitStep, if_neg (by simp [h])]
  cases hk : s.keyPressedAnswer s.heldKey with
  | true =>
    rw [if_pos rfl, ← hr]
    rfl
  | false => rw [if_neg (by simp)]

/-- The state in which a tick polls a key wait: the command that forced it taken, `BeforeFrame` put out. -/
def State.polling (s : State) (cs : List Command) : State :=
  { s with commands := cs, out := [.strobe .beforeFrame] }

theorem State.Ticking.step_of_wait (h : s.Ticking cs) (hw : s.waitingForKey = true ∨ s.waitingForRelease = true) :
    step s =
      .next (((s.polling cs).keyWaitStep.emit (.strobe .afterFrame)).emit (.tickResult false none)) := by
  rw [h.step_eq, if_pos (by simpa using hw), State.endTick_notDone_noError]
  rfl

/-- Settles O20: the poll is the whole tick between its two strobes. -/
theorem keyWaitPollsForAPress : Obligations.KeyWaitPollsForAPress := by
  unfold Obligations.KeyWaitPollsForAPress
  intro s cs hticking hpress
  refine ⟨_, hticking.step_of_wait (.inl hpress), ?_⟩
  cases hanswer : s.keyAnyAnswer with
  | some key =>
    have hpolled : (s.polling cs).keyAnyAnswer = some key := hanswer
    rw [State.keyWaitStep_of_press (s := s.polling cs) hpress hpolled]
    refine ⟨rfl, fun r => s.getV_setV s.keyTarget r key, ?out⟩
    case out =>
      simp [hpolled]
      rfl
  | none =>
    have hpolled : (s.polling cs).keyAnyAnswer = none := hanswer
    rw [State.keyWaitStep_of_no_press (s := s.polling cs) hpress hpolled]
    refine ⟨rfl, ?out⟩
    case out =>
      simp [hpolled]
      rfl

/-- Settles O21: the wait goes on exactly as the port answers. -/
theorem keyWaitPollsForTheRelease : Obligations.KeyWaitPollsForTheRelease := by
  unfold Obligations.KeyWaitPollsForTheRelease
  intro s cs hticking hpress hrelease
  refine ⟨_, hticking.step_of_wait (.inr hrelease), ?_⟩
  rw [State.keyWaitStep_of_release (s := s.polling cs) hpress hrelease]
  exact ⟨rfl, rfl⟩

/-! ### Forced ticks -/

/-- Settles O26: a forced tick passes the pause test, and no part of a tick writes the paused flag. -/
theorem loopOnceBypassesThePauseFlag : Obligations.LoopOnceBypassesThePauseFlag := by
  unfold Obligations.LoopOnceBypassesThePauseFlag
  intro s i cs hok hforce hbooted herror hpress hrelease hat
  have hcommands : s.commands ≠ [] := by
    obtain h | h := hforce <;> simp [h]
  have hready : s.Ready cs := ⟨⟨⟨hok, .inr hforce⟩, hbooted, herror, .inr hcommands⟩, hpress, hrelease⟩
  refine ⟨stepRunsTheDecodedInstruction s i cs hready hat, ?_⟩
  intro t hstep
  rw [hready.step_of_instr hat] at hstep
  cases hexec : exec i (s.entered cs) with
  | next u =>
    rw [hexec] at hstep
    cases hstep
    have hframe := exec_frame hexec
    have hpaused : u.endCycle.isPaused = u.isPaused := by rw [u.endCycle_eq]
    have hupaused : u.isPaused = s.isPaused := by rw [hframe]; rfl
    have hulooping : u.looping = s.looping := by rw [hframe]; rfl
    rw [hpaused, ← hulooping]
    exact ⟨hupaused, u.endCycle_result⟩
  | fault r =>
    rw [hexec] at hstep
    cases hstep
  | refused r =>
    rw [hexec] at hstep
    cases hstep

/-! ### No instruction stops the model -/

theorem State.Inv.top_eq_some (h : s.Inv) (hsp : s.sp ≠ 0) : ∃ w, s.top = some w := by
  have hrange := h.spRange
  have hlt : (s.sp - 1).toNat < 16 := by
    rw [toNat_sub_one hsp]
    omega
  exact ⟨_, Vector.getElem?_eq_getElem hlt⟩

theorem exec_answers (i : Instr) (h : s.Inv) (hroutine : s.cfg.mroutine = false) : ∃ t, exec i s = .next t := by
  cases i with
  | ret =>
    by_cases hsp : s.sp = 0
    · exact ⟨_, exec_ret_of_empty hsp⟩
    · obtain ⟨w, htop⟩ := h.top_eq_some hsp
      exact ⟨_, exec_ret_of_top hsp htop⟩
  | sys nnn => exact ⟨_, exec_sys_of_no_routine nnn hroutine⟩
  | call nnn =>
    by_cases hsp : 15 < s.sp.toNat
    · exact ⟨_, exec_call_of_full nnn hsp⟩
    · exact ⟨_, exec_call_of_room nnn (by omega)⟩
  | drw x y n =>
    by_cases hi : n = 0 ∨ s.i.toNat + n.toNat ≤ 4096
    · exact ⟨_, exec_drw_in_memory x y hi h.fbLen⟩
    · rw [not_or, not_le] at hi
      exact ⟨_, exec_drw_beyond_memory x y hi.1 hi.2⟩
  | ldB x =>
    by_cases hi : s.i.toNat + 3 ≤ 4096
    · exact ⟨_, exec_ldB_in_memory x hi⟩
    · exact ⟨_, exec_ldB_beyond_memory x (by omega)⟩
  | ldMemVx x =>
    by_cases hi : s.i.toNat + x.toNat + 1 ≤ 4096
    · exact ⟨_, exec_ldMemVx_in_memory x hi⟩
    · exact ⟨_, exec_ldMemVx_beyond_memory x (by omega)⟩
  | ldVxMem x =>
    by_cases hi : s.i.toNat + x.toNat + 1 ≤ 4096
    · exact ⟨_, exec_ldVxMem_in_memory x hi⟩
    · exact ⟨_, exec_ldVxMem_beyond_memory x (by omega)⟩
  | _ => exact ⟨_, rfl⟩

theorem cycle_answers (h : s.Inv) (hroutine : s.cfg.mroutine = false) : ∃ t, cycle s = .next t := by
  by_cases hpc : 4096 ≤ s.pc.toNat + 1
  · exact ⟨_, cycle_beyond_memory hpc⟩
  · rw [not_le] at hpc
    cases hdecode : decodeWord s.fetchedWord with
    | error r => exact ⟨_, cycle_of_unknown hpc hdecode⟩
    | ok i =>
      obtain ⟨u, hexec⟩ := exec_answers i (h.fetched hpc).1 hroutine
      exact ⟨u.endCycle, by rw [cycle_of_instr hpc hdecode, hexec]; rfl⟩

theorem tick_answers (bypass : Bool) (h : s.Inv) (hroutine : s.cfg.mroutine = false) : ∃ t, tick bypass s = .next t := by
  unfold tick
  split
  · exact ⟨_, rfl⟩
  · split
    · exact ⟨_, rfl⟩
    · split
      · exact ⟨_, rfl⟩
      · split
        · exact ⟨_, rfl⟩
        · exact cycle_answers ((h.emit _).emit _) hroutine

/-- Settles O9: the invariant rules out what the two faults and the refused configuration ask for. -/
theorem stepAlwaysAnswers : Obligations.StepAlwaysAnswers := by
  unfold Obligations.StepAlwaysAnswers
  intro s h hroutine hcommands
  have hstart : State.Inv { s with commands := [], out := [] } := { h with }
  rw [step, advance, if_pos h.cfgOk, hcommands]
  dsimp only
  split
  · exact tick_answers false hstart hroutine
  · exact ⟨_, rfl⟩

end Sys2Proof.Machine
end

section
/-! The host's commands (spec/60_exceptions.md R320), each as the step that takes it, and the values that power-on,
LoadProgram and reset give (spec/10_state.md R50). -/

namespace Sys2Proof.Machine

variable {s : State} {cs : List Command}

/-! ### The step that takes a command -/

/-- The state in which a waiting command is taken. -/
def State.taking (s : State) (cs : List Command) : State := { s with commands := cs, out := [] }

theorem step_of_command {c : Command} (hok : s.cfg.ok = true) (hcommands : s.commands = c :: cs) :
    step s = command c (s.taking cs) := by
  rw [step, advance, if_pos hok, hcommands]
  rfl

/-! ### Power-on, LoadProgram, reset -/

theorem Memory.unlisted_of_le (font : Vector Byte Config.fontLen) {a : Nat} (ha : 80 ≤ a) :
    Memory.unlisted font a = 0 := by
  simp [Memory.unlisted, List.getD_eq_getElem?_getD, ha]

theorem State.getV_of_zero_registers (h : s.v = Vector.replicate 16 0) (r : Nibble) : s.getV r = 0 := by
  have hr : r.toNat < 16 := r.isLt
  simp [State.getV, h]

theorem eq_zero_of_mem_zero_stack {w : Word} (h : w ∈ (Vector.replicate 16 (0 : Word)).toList) : w = 0 := by
  simpa using h

/-- Settles O6: memory with nothing listed reads FONT, then 0. -/
theorem resetHoldsTheResetValues : Obligations.ResetHoldsTheResetValues := by
  unfold Obligations.ResetHoldsTheResetValues
  exact ⟨State.getV_of_zero_registers rfl, rfl, rfl, rfl, fun _ => eq_zero_of_mem_zero_stack, rfl, rfl, fun _ _ => rfl,
    fun _ => Memory.unlisted_of_le _, rfl, rfl, rfl, rfl, rfl, rfl, rfl, rfl, rfl, rfl⟩

/-- Settles O22: the core is constructed again, with memory that lists nothing. -/
theorem powerOnZeroesTheCore : Obligations.PowerOnZeroesTheCore := by
  unfold Obligations.PowerOnZeroesTheCore
  intro s cs hok hcommands
  refine ⟨(s.taking cs).restart, step_of_command hok hcommands, State.getV_of_zero_registers rfl, ?_⟩
  exact ⟨rfl, rfl, rfl, fun _ => eq_zero_of_mem_zero_stack, rfl, rfl, fun _ _ => rfl,
    fun _ => Memory.unlisted_of_le _, rfl, rfl, rfl, rfl, rfl, rfl, rfl, rfl, rfl, rfl, rfl, rfl, rfl, rfl⟩

theorem State.loadProgram_of_too_long {p : List Byte} (h : 3584 < p.length) :
    s.loadProgram p = s.emit (.commandResult (some (.programTooLarge p.length))) := if_pos h

theorem State.loadProgram_of_fits {p : List Byte} (h : p.length ≤ 3584) :
    s.loadProgram p = (s.loaded p).emit (.commandResult none) := if_neg (not_lt.2 h)

/-- Memory after a program that fits is loaded: the program from 0x200, the unlisted contents elsewhere. -/
theorem State.readByte_loaded {p : List Byte} (h : p.length ≤ 3584) (a : Nat) :
    (s.loaded p).readByte a =
      if 0x200 ≤ a ∧ a < 0x200 + p.length then p.getD (a - 0x200) 0 else Memory.unlisted s.cfg.font a :=
  Memory.read_writeBytes (m := []) Memory.wf_nil (Nat.add_le_add_left h 0x200) a

/-- Settles O23: the length is tested before anything is written; one that fits is placed in the memory of power-on. -/
theorem loadProgramResetsTheCoreOrFails : Obligations.LoadProgramResetsTheCoreOrFails := by
  unfold Obligations.LoadProgramResetsTheCoreOrFails
  intro s p cs hok hcommands
  have hstep : step s = .next ((s.taking cs).loadProgram p) := step_of_command hok hcommands
  constructor
  · intro hlong
    rw [hstep, State.loadProgram_of_too_long hlong]
    rfl
  · intro hfits
    rw [State.loadProgram_of_fits hfits] at hstep
    have hread := State.readByte_loaded (s := s.taking cs) hfits
    refine ⟨_, hstep, State.getV_of_zero_registers rfl, rfl, rfl, rfl, fun _ => eq_zero_of_mem_zero_stack, rfl, rfl,
      fun a ha => ?font, fun k hk => ?program, fun a ha hout => ?zero,
      rfl, rfl, rfl, rfl, rfl, rfl, rfl, rfl, rfl, rfl, rfl, rfl, rfl, rfl, rfl, rfl⟩
    case font => exact (hread a).trans (if_neg (by omega))
    case program =>
      refine (hread _).trans ?_
      rw [if_pos (by omega), Nat.add_sub_cancel_left]
    case zero => exact (hread a).trans ((if_neg (by omega)).trans (Memory.unlisted_of_le _ ha))

/-! ### Boot -/

theorem State.bootPorts_cons_of_ok {p : Port} (ps : List Port) (h : s.portBootAnswer p = true) :
    s.bootPorts (p :: ps) = (s.portBootAsked p).bootPorts ps := by
  rw [State.bootPorts, if_pos h]

theorem State.bootPorts_cons_of_failed {p : Port} (ps : List Port) (h : s.portBootAnswer p = false) :
    s.bootPorts (p :: ps) = (some p, s.portBootAsked p) := by
  rw [State.bootPorts, if_neg (by simp [h])]

theorem State.boot_of_booted (h : s.isBooted = true) (run : Bool) : s.boot run = s.emit (.commandResult none) :=
  if_pos h

theorem State.boot_of_failed {p : Port} {t : State} (h : s.isBooted = false)
    (hports : s.bootPorts [.display, .keyboard, .buzzer] = (some p, t)) (run : Bool) :
    s.boot run = t.emit (.commandResult (some (.portBootFailure p))) := by
  rw [State.boot, if_neg (by simp [h]), hports]

theorem State.boot_of_ok {t : State} (h : s.isBooted = false)
    (hports : s.bootPorts [.display, .keyboard, .buzzer] = (none, t)) (run : Bool) :
    s.boot run = ({ t with isBooted := true, isPaused := !run } : State).emit (.commandResult none) := by
  rw [State.boot, if_neg (by simp [h]), hports]

/-- Settles O24: the answers of the ports do not depend on the commands or the outputs, so those of `s`, `d` and `k` are
the ones Boot gets. -/
theorem bootTouchesOnlyItsFlags : Obligations.BootTouchesOnlyItsFlags := by
  unfold Obligations.BootTouchesOnlyItsFlags
  rintro s d k b run cs hok hcommands rfl rfl rfl
  have hstep : step s = .next ((s.taking cs).boot run) := step_of_command hok hcommands
  have hout : (s.taking cs).out = [] := rfl
  rw [hstep]
  refine ⟨fun hbooted => ?booted, fun hbooted => ?_⟩
  case booted =>
    rw [State.boot_of_booted (s := s.taking cs) hbooted]
    rfl
  replace hbooted : (s.taking cs).isBooted = false := hbooted
  refine ⟨fun hd => ?display, fun hd hk => ?keyboard, fun hd hk hb => ?buzzer, fun hd hk hb => ?ok⟩
  all_goals replace hd : (s.taking cs).portBootAnswer .display = _ := hd
  case display =>
    rw [State.boot_of_failed hbooted (State.bootPorts_cons_of_failed _ hd)]
    exact congrArg _ (State.eq_of_out_eq rfl (by simp [hout, hd]))
  all_goals replace hk : ((s.taking cs).portBootAsked .display).portBootAnswer .keyboard = _ := hk
  case keyboard =>
    rw [State.boot_of_failed hbooted
      ((State.bootPorts_cons_of_ok _ hd).trans (State.bootPorts_cons_of_failed _ hk))]
    exact congrArg _ (State.eq_of_out_eq rfl (by simp [hout, hd, hk]))
  all_goals
    replace hb : (((s.taking cs).portBootAsked .display).portBootAsked .keyboard).portBootAnswer .buzzer = _ := hb
  case buzzer =>
    rw [State.boot_of_failed hbooted
      ((State.bootPorts_cons_of_ok _ hd).trans ((State.bootPorts_cons_of_ok _ hk).trans
        (State.bootPorts_cons_of_failed _ hb)))]
    exact congrArg _ (State.eq_of_out_eq rfl (by simp [hout, hd, hk, hb]))
  case ok =>
    rw [State.boot_of_ok hbooted
      ((State.bootPorts_cons_of_ok _ hd).trans ((State.bootPorts_cons_of_ok _ hk).trans
        (State.bootPorts_cons_of_ok _ hb)))]
    exact congrArg _ (State.eq_of_out_eq rfl (by simp [hout, hd, hk, hb]))

/-! ### Start, Stop, Loop -/

/-- Settles O25: each command is one field update. -/
theorem startAndStopWriteOnlyThePauseFlag : Obligations.StartAndStopWriteOnlyThePauseFlag := by
  unfold Obligations.StartAndStopWriteOnlyThePauseFlag
  intro s cs hok
  exact ⟨step_of_command hok, step_of_command hok, step_of_command hok⟩

/-! ### Reconfiguration -/

theorem Configuration.ok_iff (c : Configuration) :
    c.ok = true ↔
      (c.screenW % 8 = 0 ∧ 8 ≤ c.screenW ∧ c.screenW ≤ 256 ∧ 1 ≤ c.screenH ∧ c.screenH ≤ 256) ∧ 1 ≤ c.cpf := by
  simp [Configuration.ok, and_assoc]

theorem Configuration.speedOk_iff (c : Configuration) :
    c.speedOk = true ↔ c.speedMin ≤ c.speedHz ∧ c.speedHz ≤ c.speedMax := by
  simp [Configuration.speedOk]

theorem reconfigure_in_run (q : BitVec 5) (c : Configuration) (h : s.inRun = true) :
    reconfigure q c s = .refused .midRunReconfiguration := if_pos h

theorem reconfigure_to_illegal {c : Configuration} (q : BitVec 5) (h : s.inRun = false)
    (hc : ¬(c.ok = true ∧ c.speedOk = true)) : reconfigure q c s = .refused .badConfiguration := by
  rw [reconfigure, if_neg (by simp [h]), if_neg (by simpa using hc)]

theorem reconfigure_to_legal {c : Configuration} (q : BitVec 5) (h : s.inRun = false) (hok : c.ok = true)
    (hspeed : c.speedOk = true) :
    reconfigure q c s = .next { s with q := q, cfg := c, fb := s.resizedFb c, draws := s.draws + 1 } := by
  rw [reconfigure, if_neg (by simp [h]), if_pos (by simp [hok, hspeed])]

theorem State.resizedFb_of_same_size {c : Configuration} (hw : c.screenW = s.cfg.screenW) (hh : c.screenH = s.cfg.screenH) :
    s.resizedFb c = s.fb := if_pos ⟨hw, hh⟩

/-- A rewrite that keeps the screen size keeps the framebuffer. -/
theorem reconfigure_to_same_size {c : Configuration} (q : BitVec 5) (h : s.inRun = false) (hok : c.ok = true)
    (hspeed : c.speedOk = true) (hw : c.screenW = s.cfg.screenW) (hh : c.screenH = s.cfg.screenH) :
    reconfigure q c s = .next { s with q := q, cfg := c, draws := s.draws + 1 } := by
  rw [reconfigure_to_legal q h hok hspeed, State.resizedFb_of_same_size hw hh]

/-- Settles O27: the run flag is tested first, then the configuration as a whole. -/
theorem reconfigurationOnlyBetweenRuns : Obligations.ReconfigurationOnlyBetweenRuns := by
  unfold Obligations.ReconfigurationOnlyBetweenRuns
  intro s q w h n hz lo hi cs hok hspeed hfb
  obtain ⟨hscreen, hcpf⟩ := s.cfg.ok_iff.1 hok
  constructor
  · intro hrun
    replace hrun : (s.taking cs).inRun = true := hrun
    refine ⟨fun hc => ?_, fun hc => ?_, fun hc => ?_, fun hc => ?_⟩
    all_goals exact (step_of_command hok hc).trans (reconfigure_in_run _ _ hrun)
  · intro hrun
    replace hrun : (s.taking cs).inRun = false := hrun
    refine ⟨fun hc => ?quirks, fun hc => ⟨fun hn => ?badCpf, fun hn => ?cpf⟩,
      fun hc => ⟨fun hwh => ?badScreen, fun hwh => ?screen⟩, fun hc => ⟨fun hlohi => ?badSpeed, fun hlohi => ?speed⟩⟩
    case quirks =>
      exact ⟨_, (step_of_command hok hc).trans (reconfigure_to_same_size _ hrun hok hspeed rfl rfl), rfl⟩
    case badCpf =>
      refine (step_of_command hok hc).trans (reconfigure_to_illegal _ hrun fun hlegal => ?_)
      have hpos : 1 ≤ n := ((Configuration.ok_iff _).1 hlegal.1).2
      omega
    case cpf =>
      have hlegal : ({ s.cfg with cpf := n } : Configuration).ok = true := (Configuration.ok_iff _).2 ⟨hscreen, hn⟩
      exact ⟨_, (step_of_command hok hc).trans (reconfigure_to_same_size _ hrun hlegal hspeed rfl rfl), rfl⟩
    case badScreen =>
      refine (step_of_command hok hc).trans (reconfigure_to_illegal _ hrun fun hlegal => hwh ?_)
      exact ((Configuration.ok_iff _).1 hlegal.1).1
    case screen =>
      have hlegal : ({ s.cfg with screenW := w, screenH := h } : Configuration).ok = true :=
        (Configuration.ok_iff _).2 ⟨hwh, hcpf⟩
      refine ⟨_, (step_of_command hok hc).trans (reconfigure_to_legal _ hrun hlegal hspeed), rfl, ?_⟩
      exact State.length_resizedFb (s := s.taking cs) hfb
    case badSpeed =>
      refine (step_of_command hok hc).trans (reconfigure_to_illegal _ hrun fun hlegal => hlohi ?_)
      exact (Configuration.speedOk_iff _).1 hlegal.2
    case speed =>
      have hlegal : ({ s.cfg with speedHz := hz, speedMin := lo, speedMax := hi } : Configuration).speedOk = true :=
        (Configuration.speedOk_iff _).2 hlohi
      exact ⟨_, (step_of_command hok hc).trans (reconfigure_to_same_size _ hrun hok hlegal rfl rfl), rfl⟩

/-! ### The snapshot (spec/60_exceptions.md R336) -/

@[simp] theorem length_snapshotField (order : ByteOrder) (w : Word) : (snapshotField order w).length = 2 := by
  cases order <;> rfl

@[simp] theorem length_flatMap_snapshotField (order : ByteOrder) (ws : List Word) :
    (ws.flatMap (snapshotField order)).length = 2 * ws.length := by
  induction ws with
  | nil => rfl
  | cons w ws ih =>
    rw [List.flatMap_cons, List.length_append, ih, length_snapshotField, List.length_cons]
    omega

/-- Each word of the stack at twice its index, whatever comes after the stack. -/
theorem take_drop_flatMap_snapshotField (order : ByteOrder) (ws : List Word) (rest : List Byte) {k : Nat}
    (hk : k < ws.length) :
    ((ws.flatMap (snapshotField order) ++ rest).drop (2 * k)).take 2 = snapshotField order ws[k] := by
  induction ws generalizing k with
  | nil => simp at hk
  | cons w ws ih =>
    cases k with
    | zero => simp
    | succ k =>
      have hskip : 2 * (k + 1) = (snapshotField order w).length + 2 * k := by rw [length_snapshotField]; omega
      rw [List.flatMap_cons, List.append_assoc, hskip, List.drop_length_add_append, List.getElem_cons_succ]
      exact ih (by simpa using hk)

/-- Settles O28: the record is a concatenation, in which the lengths of the parts before a field are its offset. -/
theorem snapshotKeepsItsLayout : Obligations.SnapshotKeepsItsLayout := by
  unfold Obligations.SnapshotKeepsItsLayout
  intro s cs hok hcommands
  have hstep : step s = .next { s with commands := cs, out := [.snapshot (s.snapshotBytes Config.snapshotOrder)] } :=
    step_of_command hok hcommands
  generalize Config.snapshotOrder = order at hstep
  refine ⟨s.snapshotBytes order, snapshotField order, hstep, ?length, ?order, ?ir, ?pc, ?v, ?i, ?sp, ?stack, ?dt, ?st⟩
  case length => simp [State.snapshotBytes]
  case order =>
    cases order with
    | highFirst => exact .inl fun _ => rfl
    | lowFirst => exact .inr fun _ => rfl
  case ir => simp [State.snapshotBytes]
  case pc => simp [State.snapshotBytes]
  case v =>
    intro r
    have hr : r.toNat < 16 := r.isLt
    have hsplit : s.snapshotBytes order =
        (snapshotField order s.ir ++ snapshotField order s.pc) ++ (s.v.toList ++ (snapshotField order s.i ++ [s.sp] ++
          s.stack.toList.flatMap (snapshotField order) ++ [s.dt, s.st])) := by simp [State.snapshotBytes]
    rw [hsplit, List.getElem?_append_right (by simp), List.getElem?_append_left (by simp [hr])]
    simp [hr, State.getV]
  case i => simp [State.snapshotBytes, List.drop_append, List.drop_eq_nil_of_le]
  case sp => simp [State.snapshotBytes]
  case stack =>
    intro k hk
    have hsplit : s.snapshotBytes order =
        (snapshotField order s.ir ++ snapshotField order s.pc ++ s.v.toList ++ snapshotField order s.i ++ [s.sp]) ++
          (s.stack.toList.flatMap (snapshotField order) ++ [s.dt, s.st]) := by simp [State.snapshotBytes]
    have hoffset : 23 = (snapshotField order s.ir ++ snapshotField order s.pc ++ s.v.toList ++
        snapshotField order s.i ++ [s.sp]).length := by simp
    rw [hsplit, hoffset, List.drop_length_add_append]
    exact take_drop_flatMap_snapshotField order s.stack.toList _ (by simpa using hk)
  case dt => simp [State.snapshotBytes]
  case st => simp [State.snapshotBytes]

end Sys2Proof.Machine
end

section
/-! What the instructions of control transfer, keyboard, logic, shifts, random, index register and memory do, stated on
registers, bytes and naturals (spec/40_flow.md, spec/42_alu.md, spec/43_index_memory.md, spec/45_keys_timers.md). -/

namespace Sys2Proof.Machine

variable {s t : State}

/-! ### Where the model stops -/

/-- Settles O29: the popped slot would be slot 16 or above, which does not exist. -/
theorem stopsOutsideTheInvariant : Obligations.StopsOutsideTheInvariant := by
  unfold Obligations.StopsOutsideTheInvariant
  intro s x y n
  refine ⟨fun hsp => ?ret, fun hfb hi => exec_drw_wrong_framebuffer x y hi hfb, fun hok => ?step⟩
  case ret =>
    have hne : s.sp ≠ 0 := by
      rintro h0
      simp [h0] at hsp
    have hle : 16 ≤ (s.sp - 1).toNat := by
      rw [toNat_sub_one hne]
      omega
    exact exec_ret_of_no_top hne (Vector.getElem?_eq_none hle)
  case step => exact if_neg (by simp [hok])

/-! ### Control transfer -/

/-- Settles O30: with `Sp` = k + 1 the popped slot is slot k, which exists. -/
theorem retPopsOrRaises : Obligations.RetPopsOrRaises := by
  unfold Obligations.RetPopsOrRaises
  intro s
  refine ⟨exec_ret_of_empty, fun k hk hsp => ?_⟩
  have hne : s.sp ≠ 0 := by
    rintro h0
    simp [h0] at hsp
  have hslot : (s.sp - 1).toNat = k := by
    rw [toNat_sub_one hne]
    omega
  have htop : s.top = some s.stack[k] := by
    rw [State.top, hslot]
    exact Vector.getElem?_eq_getElem hk
  have hpop : s.sp - 1 = BitVec.ofNat 8 k := by rw [← hslot, BitVec.ofNat_toNat, BitVec.setWidth_eq]
  rw [exec_ret_of_top hne htop, State.popTo, hpop]

/-- Settles O31: in range, the checked write to the stack is the plain one. -/
theorem callPushesOrRaises : Obligations.CallPushesOrRaises := by
  unfold Obligations.CallPushesOrRaises
  intro s nnn
  refine ⟨exec_call_of_full nnn, fun hsp => ?_⟩
  have hpush : s.stack.setIfInBounds s.sp.toNat s.pc = s.stack.set s.sp.toNat s.pc hsp := by
    simp [Vector.setIfInBounds, Vector.set, Array.setIfInBounds, hsp]
  rw [exec_call_of_room nnn hsp, State.push, hpush, zextAddr_eq_ofNat]
  rfl

/-- Settles O33. -/
theorem sysIsANoOpWithoutTheHook : Obligations.SysIsANoOpWithoutTheHook := by
  unfold Obligations.SysIsANoOpWithoutTheHook
  exact fun s nnn => ⟨exec_sys_of_no_routine nnn, exec_sys_of_routine nnn⟩

/-! ### Keyboard -/

/-- Settles O35: the question changes no register, and the skip is on its answer. -/
theorem keySkipsFollowThePortsAnswer : Obligations.KeySkipsFollowThePortsAnswer := by
  unfold Obligations.KeySkipsFollowThePortsAnswer
  intro s x
  refine ⟨⟨_, exec_skp x s, rfl, rfl, rfl⟩, ⟨_, exec_sknp x s, rfl, rfl, ?_⟩⟩
  cases hk : s.keyPressedAnswer (s.getV x) <;> simp

/-- Settles O54. -/
theorem keyWaitBeginsWithoutBlocking : Obligations.KeyWaitBeginsWithoutBlocking := by
  unfold Obligations.KeyWaitBeginsWithoutBlocking
  exact fun s x => exec_ldVxK x s

/-! ### Logic and shifts -/

/-- The registers a logic operation reads are those after VF is cleared, and it writes its destination last. -/
theorem State.getV_logic_of_cleared {z : Nibble → Byte}
    (hz : ∀ r, z r = if s.q.getLsbD 0 = true ∧ r = 15#4 then 0 else s.getV r) (op : Byte → Byte → Byte) (x y r : Nibble) :
    (s.logic op x y).getV r = if r = x then op (z x) (z y) else z r := by
  have hcleared : ∀ r, s.resetVF.getV r = z r := fun r => (s.getV_resetVF r).trans (hz r).symm
  rw [State.getV_logic, hcleared, hcleared, hcleared]

/-- Settles O38: the three operations are one, applied to the registers as cleared. -/
theorem logicClearsVfFirst : Obligations.LogicClearsVfFirst := by
  unfold Obligations.LogicClearsVfFirst
  intro s x y z hz
  exact ⟨⟨_, exec_or x y s, State.logic_eq .., State.getV_logic_of_cleared hz _ x y⟩,
    ⟨_, exec_and x y s, State.logic_eq .., State.getV_logic_of_cleared hz _ x y⟩,
    ⟨_, exec_xor x y s, State.logic_eq .., State.getV_logic_of_cleared hz _ x y⟩⟩

theorem toNat_lowBitFlag (a : Byte) : (lowBitFlag a).toNat = a.toNat % 2 := by
  rw [lowBitFlag, BitVec.toNat_and]
  exact Nat.and_one_is_mod _

theorem toNat_highBitFlag (a : Byte) : (highBitFlag a).toNat = a.toNat / 128 := by
  rw [highBitFlag, BitVec.toNat_ushiftRight, Nat.shiftRight_eq_div_pow]

theorem toNat_shiftRight_one (a : Byte) : (a >>> 1).toNat = a.toNat / 2 := by
  rw [BitVec.toNat_ushiftRight, Nat.shiftRight_eq_div_pow]

theorem toNat_shiftLeft_one (a : Byte) : (a <<< 1).toNat = 2 * a.toNat % 256 := by
  rw [BitVec.toNat_shiftLeft, Nat.shiftLeft_eq, Nat.mul_comm]

/-- The shift instructions, for either direction: the operand `a` is loaded, its flag written, then what is in the
destination shifted, which with x = 15 is the flag. -/
theorem State.shift_registers {x y : Nibble} {a : Byte} {flag shift : Byte → Byte}
    (ha : a = if s.q.getLsbD 1 = true then s.getV y else s.getV x)
    (ht : t = (s.loadShiftOperand x y).flagThenShift x flag shift) :
    t = { s with v := t.v } ∧ (x ≠ 15#4 → t.getV x = shift a ∧ t.getV 15#4 = flag a) ∧
      (x = 15#4 → t.getV 15#4 = shift (flag a)) ∧ ∀ r, r ≠ x → r ≠ 15#4 → t.getV r = s.getV r := by
  have hoperand : (s.loadShiftOperand x y).getV x = a := by
    rw [State.getV_loadShiftOperand, ha]
    simp [State.shiftVy]
  have hget := fun r => (s.loadShiftOperand x y).getV_flagThenShift x r flag shift
  rw [hoperand, ← ht] at hget
  refine ⟨?frame, fun hx => ⟨?result, ?flag⟩, fun hx => ?both, fun r hr hVF => ?others⟩
  case frame =>
    rw [ht, State.loadShiftOperand_eq]
    rfl
  case result => rw [hget, if_pos rfl, if_neg hx]
  case flag => rw [hget, if_neg (Ne.symm hx), if_pos rfl]
  case both => rw [hget, if_pos hx.symm, if_pos hx]
  case others => rw [hget, if_neg hr, if_neg hVF, State.getV_loadShiftOperand, if_neg (fun h => hr h.2)]

/-- Settles O41: with x = 15 the flag, 0 or 1, is what is halved. -/
theorem shiftRightHalvesItsOperand : Obligations.ShiftRightHalvesItsOperand := by
  unfold Obligations.ShiftRightHalvesItsOperand
  intro s x y a ha
  obtain ⟨hframe, hwrites, hboth, hothers⟩ := State.shift_registers ha rfl
  refine ⟨_, exec_shr x y s, hframe, fun hx => ?_, fun hx => ?_, hothers⟩
  · rw [(hwrites hx).1, (hwrites hx).2]
    exact ⟨toNat_shiftRight_one a, toNat_lowBitFlag a⟩
  · rw [hboth hx]
    apply BitVec.eq_of_toNat_eq
    rw [toNat_shiftRight_one, toNat_lowBitFlag]
    exact Nat.div_eq_of_lt (Nat.mod_lt _ Nat.two_pos)

/-- Settles O42: with x = 15 the flag, 0 or 1, is what is doubled. -/
theorem shiftLeftDoublesItsOperand : Obligations.ShiftLeftDoublesItsOperand := by
  unfold Obligations.ShiftLeftDoublesItsOperand
  intro s x y a ha
  obtain ⟨hframe, hwrites, hboth, hothers⟩ := State.shift_registers ha rfl
  refine ⟨_, exec_shl x y s, hframe, fun hx => ?_, fun hx => ?_, hothers⟩
  · rw [(hwrites hx).1, (hwrites hx).2]
    exact ⟨toNat_shiftLeft_one a, toNat_highBitFlag a⟩
  · have halt : a.toNat < 256 := a.isLt
    rw [hboth hx, toNat_shiftLeft_one, toNat_highBitFlag]
    omega

/-! ### Random -/

/-- Settles O43: the question is asked once, and its answer decides between the write and the error. -/
theorem randomByteIsMaskedOrRaises : Obligations.RandomByteIsMaskedOrRaises := by
  unfold Obligations.RandomByteIsMaskedOrRaises
  intro s x kk
  cases ha : s.randAnswer with
  | byte b =>
    refine ⟨_, exec_rnd_of_byte x kk ha, rfl, ?_, fun r => State.getV_setV s.randAsked x r _⟩
    rw [State.setV_out, State.randAsked_out, ha]
  | failed f =>
    refine ⟨_, exec_rnd_of_failed x kk ha, rfl, ?_⟩
    rw [State.raise_out, State.randAsked_out, ha, List.append_assoc]
    rfl

/-! ### Index register -/

/-- Settles O44: a byte times 5 is below 2^16, so the font address is the product itself. -/
theorem indexLoadsWriteOnlyI : Obligations.IndexLoadsWriteOnlyI := by
  unfold Obligations.IndexLoadsWriteOnlyI
  intro s x nnn
  refine ⟨⟨_, exec_ldI nnn s, rfl, ?ldI⟩, ⟨_, exec_addI x s, rfl, ?addI⟩, ⟨_, exec_ldF x s, rfl, ?ldF⟩⟩
  case ldI => exact toNat_zextAddr nnn
  case addI => rw [State.setI_i, BitVec.toNat_add, toNat_zextByte]
  case ldF =>
    have hb : (s.getV x).toNat < 256 := (s.getV x).isLt
    have hlt : (s.getV x).toNat * 5 < 2 ^ 16 := by omega
    rw [State.setI_i, fontAddr, BitVec.toNat_ofNat]
    exact Nat.mod_eq_of_lt hlt

/-! ### Memory -/

/-- The state after bytes are stored from address `a` up. -/
def State.stored (s : State) (a : Nat) (bs : List Byte) : State :=
  { s with mem := Memory.writeBytes s.cfg.font s.mem a bs }

section Stored

variable {a k : Nat} {bs : List Byte} (hwf : Memory.wf s.cfg.font s.mem = true) (ha : a + bs.length ≤ 4096)
include hwf ha

theorem State.readByte_stored (hk : k < bs.length) : (s.stored a bs).readByte (a + k) = bs.getD k 0 := by
  refine (Memory.read_writeBytes hwf ha (a + k)).trans ?_
  rw [if_pos (by omega), Nat.add_sub_cancel_left]

theorem State.readByte_stored_of_outside (hk : k < a ∨ a + bs.length ≤ k) :
    (s.stored a bs).readByte k = s.readByte k :=
  (Memory.read_writeBytes hwf ha k).trans (if_neg (by omega))

end Stored

theorem toNat_digit {b : Byte} {n : Nat} (h : n ≤ b.toNat) : (BitVec.ofNat 8 n).toNat = n := by
  rw [BitVec.toNat_ofNat]
  exact Nat.mod_eq_of_lt (lt_of_le_of_lt h b.isLt)

/-- Settles O45: a decimal digit of a byte fits in a byte. -/
theorem storeDecimalWritesThreeDigits : Obligations.StoreDecimalWritesThreeDigits := by
  unfold Obligations.StoreDecimalWritesThreeDigits
  intro s x hwf hi
  have hread := fun k => State.readByte_stored (bs := bcdDigits (s.getV x)) (k := k) hwf hi
  refine ⟨s.stored s.i.toNat (bcdDigits (s.getV x)), exec_ldB_in_memory x hi, rfl, ?hundreds, ?tens, ?ones,
    fun a ha => State.readByte_stored_of_outside hwf hi ha⟩
  case hundreds =>
    exact (congrArg _ (hread 0 (by simp))).trans (toNat_digit (b := s.getV x) (Nat.div_le_self _ _))
  case tens =>
    exact (congrArg _ (hread 1 (by simp))).trans (toNat_digit (b := s.getV x) (by omega))
  case ones =>
    exact (congrArg _ (hread 2 (by simp))).trans (toNat_digit (b := s.getV x) (Nat.mod_le _ _))

@[simp] theorem State.readByte_advanceI (s : State) (x : Nibble) (a : Nat) :
    (s.advanceI x).readByte a = s.readByte a := by
  rw [State.advanceI_eq]
  rfl

/-- Settles O46: the bytes stored are V[0] to V[x], and the advance of `I` comes after the store. -/
theorem storeRegistersWritesThePrefix : Obligations.StoreRegistersWritesThePrefix := by
  unfold Obligations.StoreRegistersWritesThePrefix
  intro s x hwf
  refine ⟨exec_ldMemVx_beyond_memory x, fun hi => ?_⟩
  have hfits : s.i.toNat + (s.regsUpTo x).length ≤ 4096 := by
    rw [State.length_regsUpTo]
    exact hi
  refine ⟨(s.stored s.i.toNat (s.regsUpTo x)).advanceI x, exec_ldMemVx_in_memory x hi, ?frame, ?index, fun r hr => ?bytes,
    fun a ha => ?outside⟩
  case frame =>
    rw [State.advanceI_eq]
    rfl
  case index =>
    rw [State.advanceI_eq]
    rfl
  case bytes =>
    rw [State.readByte_advanceI, State.readByte_stored hwf hfits (by rw [State.length_regsUpTo]; omega),
      s.getD_regsUpTo hr]
  case outside =>
    rw [State.readByte_advanceI, State.readByte_stored_of_outside hwf hfits (by rw [State.length_regsUpTo]; omega)]

/-- Settles O47: the bytes read are those at I to I + x, loaded from V[0] up. -/
theorem loadRegistersReadsThePrefix : Obligations.LoadRegistersReadsThePrefix := by
  unfold Obligations.LoadRegistersReadsThePrefix
  intro s x
  refine ⟨exec_ldVxMem_beyond_memory x, fun hi => ?_⟩
  refine ⟨_, exec_ldVxMem_in_memory x hi, ?frame, ?index, fun r => ?registers⟩
  case frame => rw [State.advanceI_eq, State.setRegsFrom_eq]
  case index =>
    rw [State.advanceI_eq, State.setRegsFrom_eq]
    rfl
  case registers =>
    rw [State.getV_advanceI, State.getV_setRegsFrom, Memory.length_readBytes]
    by_cases hr : r.toNat ≤ x.toNat
    · rw [if_pos ⟨Nat.zero_le _, by omega⟩, if_pos hr, Nat.sub_zero, Memory.getD_readBytes _ (by omega)]
      rfl
    · rw [if_neg (by omega), if_neg hr]

/-- Settles O48. -/
theorem digitAndSpriteAccessBeyondMemoryRaises : Obligations.DigitAndSpriteAccessBeyondMemoryRaises := by
  unfold Obligations.DigitAndSpriteAccessBeyondMemoryRaises
  exact fun s x y n => ⟨exec_ldB_beyond_memory x, exec_drw_beyond_memory x y⟩

/-- Settles O49: the store was in memory, so the fetch at the same address is, and reads the two bytes back. -/
theorem storedBytesAreFetched : Obligations.StoredBytesAreFetched := by
  unfold Obligations.StoredBytesAreFetched
  intro s t hi lo hwf hwrite
  obtain ⟨-, herror⟩ | ⟨hfits, hok⟩ := s.memWrite_cases s.pc.toNat [hi, lo]
  · rw [herror] at hwrite
    cases hwrite
  · rw [hok] at hwrite
    cases hwrite
    have hpc : s.pc.toNat + 2 ≤ 4096 := hfits
    have hhi := State.readByte_stored hwf hfits (k := 0) (by simp)
    have hlo := State.readByte_stored hwf hfits (k := 1) (by simp)
    have hword : (s.stored s.pc.toNat [hi, lo]).fetchedWord = hi ++ lo := congrArg₂ wordOfBytes hhi hlo
    obtain ⟨hbeyond, -⟩ | ⟨-, hfetch⟩ := (s.stored s.pc.toNat [hi, lo]).fetch_cases
    · exact absurd hpc (not_le.2 (Nat.lt_succ_of_le hbeyond))
    · rw [hword] at hfetch
      exact hfetch

/-! ### Screen -/

/-- Settles O50. -/
theorem clearScreenClearsEveryByte : Obligations.ClearScreenClearsEveryByte := by
  unfold Obligations.ClearScreenClearsEveryByte
  exact fun s => exec_cls s

end Sys2Proof.Machine
end

section
/-! The screen engine on pixels (spec/44_draw.md R204 to R208): a blit is the XOR of a mask, whose bits are the pixels that
the sprite byte covers. -/

namespace Sys2Proof.Machine

/-! ### Bytes -/

theorem byte_ne_zero_iff (a : Byte) : a ≠ 0 ↔ ∃ j, j < 8 ∧ a.getLsbD j = true := by
  constructor
  · intro hne
    by_contra hnone
    refine hne (BitVec.eq_of_getLsbD_eq fun j hj => ?_)
    have hbit : ¬a.getLsbD j = true := fun h => hnone ⟨j, hj, h⟩
    simpa using hbit
  · rintro ⟨j, -, hbit⟩ rfl
    simp at hbit

theorem and_not_xor (a m : Byte) : a &&& ~~~(a ^^^ m) = a &&& m := by
  apply BitVec.eq_of_getLsbD_eq
  intro j hj
  simp only [BitVec.getLsbD_and, BitVec.getLsbD_not, BitVec.getLsbD_xor, hj]
  cases a.getLsbD j <;> simp

/-- A target byte collides when the mask has a bit where the byte has one. -/
theorem byteCollides_xor_iff (a m : Byte) :
    byteCollides a (a ^^^ m) = true ↔ ∃ j, j < 8 ∧ a.getLsbD j = true ∧ m.getLsbD j = true := by
  rw [byteCollides, and_not_xor, bne_iff_ne, byte_ne_zero_iff]
  simp only [BitVec.getLsbD_and, Bool.and_eq_true]

theorem xorByte_zero (fb : List Byte) (b : Nat) : xorByte fb b 0 = fb := by
  by_cases hb : b < fb.length
  · simp [xorByte, List.getD_eq_getElem?_getD, hb]
  · exact List.set_eq_of_length_le (not_lt.1 hb)

/-! ### The mask of a blit -/

/-- The part of a sprite byte that goes to the byte at its bit offset. -/
def leftPart (off : Nat) (s : Byte) : Byte := s >>> (off % 8)

/-- The part that goes to the next byte of the row, 0 when the sprite byte is aligned. -/
def rightPart (off : Nat) (s : Byte) : Byte := s <<< (8 - off % 8)

theorem getLsbD_leftPart (off : Nat) (s : Byte) (j : Nat) : (leftPart off s).getLsbD j = s.getLsbD (off % 8 + j) := by
  rw [leftPart, BitVec.getLsbD_ushiftRight]

theorem getLsbD_rightPart (off : Nat) (s : Byte) {j : Nat} (hj : j < 8) :
    (rightPart off s).getLsbD j = (decide (8 - off % 8 ≤ j) && s.getLsbD (j - (8 - off % 8))) := by
  rw [rightPart, BitVec.getLsbD_shiftLeft]
  by_cases h : j < 8 - off % 8
  · simp [h, not_le.2 h]
  · simp [hj, h, not_lt.1 h]

theorem rightPart_of_aligned {off : Nat} (h : off % 8 = 0) (s : Byte) : rightPart off s = 0 := by
  rw [rightPart, h]
  exact BitVec.shiftLeft_eq_zero (le_refl 8)

/-- The two parts share no bit. -/
theorem leftPart_of_rightPart {off : Nat} {s : Byte} {j : Nat} (hj : j < 8) (h : (rightPart off s).getLsbD j = true) :
    (leftPart off s).getLsbD j = false := by
  rw [getLsbD_rightPart off s hj, Bool.and_eq_true, decide_eq_true_eq] at h
  rw [getLsbD_leftPart]
  exact BitVec.getLsbD_of_ge _ _ (by omega)

/-- The aligned case is the other one with nothing in the right part. -/
theorem blitAt_eq (rowBytes row off : Nat) (s : Byte) (fb : List Byte) :
    blitAt rowBytes row off s fb =
      (xorByte (xorByte fb (off / 8) (leftPart off s)) (nextInRow rowBytes row (off / 8)) (rightPart off s),
        byteCollides (fb.getD (off / 8) 0) (fb.getD (off / 8) 0 ^^^ leftPart off s) ||
          byteCollides ((xorByte fb (off / 8) (leftPart off s)).getD (nextInRow rowBytes row (off / 8)) 0)
            ((xorByte fb (off / 8) (leftPart off s)).getD (nextInRow rowBytes row (off / 8)) 0 ^^^ rightPart off s)) := by
  unfold blitAt
  dsimp only
  split
  · next h =>
    have hleft : leftPart off s = s := by rw [leftPart, h]; rfl
    rw [rightPart_of_aligned h, hleft, xorByte_zero]
    simp [byteCollides]
  · rfl

/-- What a blit XORs into byte `k` of the framebuffer. -/
def blitMask (rowBytes row off : Nat) (s : Byte) (k : Nat) : Byte :=
  (if k = off / 8 then leftPart off s else 0) ^^^
    (if k = nextInRow rowBytes row (off / 8) then rightPart off s else 0)

theorem xor_eq_or_of_disjoint :
    ∀ p q l r : Bool, (r = true → l = false) → ((p && l) ^^ (q && r)) = ((p && l) || (q && r)) := by
  decide

theorem getLsbD_ite_zero (p : Prop) [Decidable p] (a : Byte) (j : Nat) :
    (if p then a else 0).getLsbD j = (decide p && a.getLsbD j) := by
  by_cases h : p <;> simp [h]

theorem getLsbD_blitMask_iff {rowBytes row off : Nat} {s : Byte} {k j : Nat} (hj : j < 8) :
    (blitMask rowBytes row off s k).getLsbD j = true ↔
      (k = off / 8 ∧ (leftPart off s).getLsbD j = true) ∨
        (k = nextInRow rowBytes row (off / 8) ∧ (rightPart off s).getLsbD j = true) := by
  rw [blitMask, BitVec.getLsbD_xor, getLsbD_ite_zero, getLsbD_ite_zero,
    xor_eq_or_of_disjoint _ _ _ _ (leftPart_of_rightPart hj)]
  simp

section Blit

variable {rowBytes row off : Nat} {s : Byte} {fb : List Byte} (h0 : off / 8 < fb.length)
  (h1 : nextInRow rowBytes row (off / 8) < fb.length)
include h0

/-- The first XOR does not touch the bits that the second one collides on. -/
theorem getLsbD_xorByte_leftPart (k : Nat) {j : Nat} (hj : j < 8) (hright : (rightPart off s).getLsbD j = true) :
    ((xorByte fb (off / 8) (leftPart off s)).getD k 0).getLsbD j = (fb.getD k 0).getLsbD j := by
  rw [getD_xorByte h0]
  split
  · rw [BitVec.getLsbD_xor, leftPart_of_rightPart hj hright, Bool.xor_false]
  · rfl

include h1

theorem getD_blitAt (k : Nat) :
    (blitAt rowBytes row off s fb).1.getD k 0 = fb.getD k 0 ^^^ blitMask rowBytes row off s k := by
  rw [blitAt_eq]
  dsimp only
  rw [getD_xorByte (by rwa [length_xorByte]), getD_xorByte h0, blitMask]
  split <;> split <;> simp [BitVec.xor_assoc]

theorem blitAt_collides_iff :
    (blitAt rowBytes row off s fb).2 = true ↔
      ∃ k j, k < fb.length ∧ j < 8 ∧ (fb.getD k 0).getLsbD j = true ∧
        (blitMask rowBytes row off s k).getLsbD j = true := by
  rw [blitAt_eq, Bool.or_eq_true, byteCollides_xor_iff, byteCollides_xor_iff]
  constructor
  · rintro (⟨j, hj, hfb, hleft⟩ | ⟨j, hj, hfb, hright⟩)
    · exact ⟨_, j, h0, hj, hfb, (getLsbD_blitMask_iff hj).2 (.inl ⟨rfl, hleft⟩)⟩
    · rw [getLsbD_xorByte_leftPart h0 _ hj hright] at hfb
      exact ⟨_, j, h1, hj, hfb, (getLsbD_blitMask_iff hj).2 (.inr ⟨rfl, hright⟩)⟩
  · rintro ⟨k, j, -, hj, hfb, hmask⟩
    obtain ⟨rfl, hleft⟩ | ⟨rfl, hright⟩ := (getLsbD_blitMask_iff hj).1 hmask
    · exact .inl ⟨j, hj, hfb, hleft⟩
    · exact .inr ⟨j, hj, by rwa [getLsbD_xorByte_leftPart h0 _ hj hright], hright⟩

end Blit

/-! ### Pixels and bytes -/

/-- A legal screen in whole bytes: `SCREEN_W` is 8 times `ROWB`. -/
theorem Configuration.screen_of_ok {c : Configuration} (h : c.ok = true) :
    c.screenW = 8 * c.rowBytes ∧ 1 ≤ c.rowBytes ∧ 1 ≤ c.screenH ∧ c.screenH ≤ 256 ∧ c.fbLen = c.screenH * c.rowBytes := by
  obtain ⟨⟨hmod, hmin, -, hpos, hmax⟩, -⟩ := c.ok_iff.1 h
  have hw : c.screenW = 8 * c.rowBytes := by
    rw [Configuration.rowBytes]
    omega
  refine ⟨hw, by omega, hpos, hmax, ?_⟩
  rw [Configuration.fbLen, hw, Nat.mul_assoc, Nat.mul_div_cancel_left _ (by decide), Nat.mul_comm]

theorem row_mul_add_lt {n r q H : Nat} (hr : r < H) (hq : q < n) : r * n + q < H * n :=
  calc r * n + q < r * n + n := Nat.add_lt_add_left hq _
    _ = (r + 1) * n := (Nat.succ_mul r n).symm
    _ ≤ H * n := Nat.mul_le_mul_right n hr

theorem row_mul_add_inj {n r r' q q' : Nat} (hq : q < n) (hq' : q' < n) (h : r * n + q = r' * n + q') :
    r = r' ∧ q = q' := by
  have hpos : 0 < n := by omega
  have hrow := congrArg (· / n) h
  have hcol := congrArg (· % n) h
  simp only [Nat.mul_comm _ n, Nat.mul_add_div hpos, Nat.mul_add_mod, Nat.div_eq_of_lt hq, Nat.div_eq_of_lt hq',
    Nat.mod_eq_of_lt hq, Nat.mod_eq_of_lt hq'] at hrow hcol
  exact ⟨hrow, hcol⟩

section Pixels

variable {c : Configuration} (hok : c.ok = true)
include hok

theorem row_mul_screenW (row : Nat) : row * c.screenW = 8 * (row * c.rowBytes) := by
  rw [(c.screen_of_ok hok).1, Nat.mul_left_comm]

theorem pixel_byte (row col : Nat) : (row * c.screenW + col) / 8 = row * c.rowBytes + col / 8 := by
  rw [row_mul_screenW hok]
  omega

theorem pixel_bit (row col : Nat) : (row * c.screenW + col) % 8 = col % 8 := by
  rw [row_mul_screenW hok]
  omega

theorem pixelAt_eq (fb : List Byte) (row col : Nat) :
    pixelAt c fb row col = (fb.getD (row * c.rowBytes + col / 8) 0).getLsbD (7 - col % 8) := by
  rw [pixelAt, pixel_byte hok, pixel_bit hok]

/-- Every bit of the framebuffer is a pixel of the screen. -/
theorem exists_pixel_of_bit {k j : Nat} (hk : k < c.fbLen) (hj : j < 8) :
    ∃ row col, row < c.screenH ∧ col < c.screenW ∧ row * c.rowBytes + col / 8 = k ∧ 7 - col % 8 = j := by
  obtain ⟨hw, hpos, -, -, hlen⟩ := c.screen_of_ok hok
  have hq : k % c.rowBytes < c.rowBytes := Nat.mod_lt _ hpos
  have hdiv : (8 * (k % c.rowBytes) + (7 - j)) / 8 = k % c.rowBytes := by omega
  refine ⟨k / c.rowBytes, 8 * (k % c.rowBytes) + (7 - j), ?_, by omega, ?_, by omega⟩
  · rw [Nat.div_lt_iff_lt_mul hpos]
    omega
  · rw [hdiv, Nat.div_add_mod']

/-- A framebuffer is its pixels. -/
theorem fb_ext {fb fb' : List Byte} (hlen : fb.length = c.fbLen) (hlen' : fb'.length = c.fbLen)
    (h : ∀ row col, row < c.screenH → col < c.screenW → pixelAt c fb row col = pixelAt c fb' row col) : fb = fb' := by
  apply List.ext_getElem (hlen.trans hlen'.symm)
  intro k hk hk'
  apply BitVec.eq_of_getLsbD_eq
  intro j hj
  obtain ⟨row, col, hrow, hcol, rfl, rfl⟩ := exists_pixel_of_bit hok (hlen ▸ hk) hj
  have hpixel := h row col hrow hcol
  rw [pixelAt_eq hok, pixelAt_eq hok] at hpixel
  simpa [List.getD_eq_getElem?_getD, hk, hk'] using hpixel

end Pixels

/-! ### The bits of the mask are the pixels of the sprite byte -/

theorem spriteCovers_iff (c : Configuration) (xc yc b : Byte) (row col : Nat) :
    spriteCovers c xc yc b row col = true ↔
      row = yc.toNat % c.screenH ∧
        ∃ j, j < 8 ∧ b.getLsbD (7 - j) = true ∧ col = (xc.toNat % c.screenW + j) % c.screenW := by
  simp [spriteCovers, List.any_eq_true]

theorem eq_add_mod_iff {w x col j : Nat} (hx : x < w) (hcol : col < w) (hj : j ≤ w) :
    col = (x + j) % w ↔ x + j = col ∨ x + j = col + w := by
  by_cases hlt : x + j < w
  · rw [Nat.mod_eq_of_lt hlt]
    omega
  · rw [Nat.mod_eq_sub_mod (not_lt.1 hlt), Nat.mod_eq_of_lt (by omega)]
    omega

/-- The byte of a row that follows byte `q`, the first one after the last. -/
def nextByte (n q : Nat) : Nat := if n ≤ q + 1 then 0 else q + 1

theorem nextInRow_eq (n row q : Nat) : nextInRow n row (row * n + q) = row * n + nextByte n q := by
  have hrow : (row + 1) * n = row * n + n := Nat.succ_mul row n
  unfold nextInRow nextByte
  split <;> split <;> omega

/-- A pixel of a sprite byte drawn at column `x` is a bit of its left part in the byte of `x`, or a bit of its right part
in the next byte. -/
theorem covers_column_iff {n x col : Nat} (b : Byte) (hx : x < 8 * n) (hcol : col < 8 * n) :
    (∃ j, j < 8 ∧ b.getLsbD (7 - j) = true ∧ col = (x + j) % (8 * n)) ↔
      (col / 8 = x / 8 ∧ (leftPart x b).getLsbD (7 - col % 8) = true) ∨
        (col / 8 = nextByte n (x / 8) ∧ (rightPart x b).getLsbD (7 - col % 8) = true) := by
  have hnext : nextByte n (x / 8) = if n ≤ x / 8 + 1 then 0 else x / 8 + 1 := rfl
  rw [getLsbD_leftPart, getLsbD_rightPart x b (by omega), Bool.and_eq_true, decide_eq_true_eq]
  constructor
  · rintro ⟨j, hj, hbit, hwrap⟩
    rw [eq_add_mod_iff hx hcol (by omega)] at hwrap
    by_cases hm : x % 8 ≤ col % 8
    · have hindex : x % 8 + (7 - col % 8) = 7 - j := by omega
      exact .inl ⟨by omega, by rwa [hindex]⟩
    · have hindex : 7 - col % 8 - (8 - x % 8) = 7 - j := by omega
      refine .inr ⟨?_, by omega, by rwa [hindex]⟩
      rw [hnext]
      split <;> omega
  · rintro (⟨hbyte, hbit⟩ | ⟨hbyte, hm, hbit⟩)
    · have hlt := BitVec.lt_of_getLsbD hbit
      refine ⟨col % 8 - x % 8, by omega, ?_, (eq_add_mod_iff hx hcol (by omega)).2 (.inl (by omega))⟩
      have hindex : 7 - (col % 8 - x % 8) = x % 8 + (7 - col % 8) := by omega
      rwa [hindex]
    · refine ⟨col % 8 + 8 - x % 8, by omega, ?_, (eq_add_mod_iff hx hcol (by omega)).2 ?_⟩
      · have hindex : 7 - (col % 8 + 8 - x % 8) = 7 - col % 8 - (8 - x % 8) := by omega
        rwa [hindex]
      · rw [hnext] at hbyte
        split at hbyte <;> omega

theorem leftPart_congr {off off' : Nat} (h : off % 8 = off' % 8) (b : Byte) : leftPart off b = leftPart off' b := by
  rw [leftPart, leftPart, h]

theorem rightPart_congr {off off' : Nat} (h : off % 8 = off' % 8) (b : Byte) : rightPart off b = rightPart off' b := by
  rw [rightPart, rightPart, h]

/-- What `blit` XORs into byte `k`. -/
def Configuration.blitMask (c : Configuration) (xc yc b : Byte) (k : Nat) : Byte :=
  Machine.blitMask c.rowBytes (yc.toNat % c.screenH) (yc.toNat % c.screenH * c.screenW + xc.toNat % c.screenW) b k

section BlitPixels

variable {c : Configuration} (hok : c.ok = true) (xc yc b : Byte)
include hok

theorem getLsbD_blitMask_pixel {row col : Nat} (hcol : col < c.screenW) :
    (c.blitMask xc yc b (row * c.rowBytes + col / 8)).getLsbD (7 - col % 8) = spriteCovers c xc yc b row col := by
  obtain ⟨hw, hpos, -⟩ := c.screen_of_ok hok
  have hx : xc.toNat % c.screenW < 8 * c.rowBytes := hw ▸ Nat.mod_lt _ (by omega)
  have hmod := pixel_bit hok (yc.toNat % c.screenH) (xc.toNat % c.screenW)
  have hcolumn := covers_column_iff b hx (hw ▸ hcol)
  have hnext : nextByte c.rowBytes (xc.toNat % c.screenW / 8) < c.rowBytes := by
    unfold nextByte
    split <;> omega
  have hbyte : ∀ q, q < c.rowBytes →
      (row * c.rowBytes + col / 8 = yc.toNat % c.screenH * c.rowBytes + q ↔ row = yc.toNat % c.screenH ∧ col / 8 = q) := by
    intro q hq
    constructor
    · exact row_mul_add_inj (by omega) hq
    · rintro ⟨rfl, rfl⟩
      rfl
  rw [Bool.eq_iff_iff, Configuration.blitMask, getLsbD_blitMask_iff (by omega), spriteCovers_iff, pixel_byte hok,
    nextInRow_eq, hbyte _ (by omega), hbyte _ hnext, leftPart_congr hmod, rightPart_congr hmod, and_assoc, and_assoc,
    ← and_or_left, ← hcolumn, ← hw]

/-- The two bytes a blit writes lie in the framebuffer. -/
theorem blit_bytes_lt :
    (yc.toNat % c.screenH * c.screenW + xc.toNat % c.screenW) / 8 < c.fbLen ∧
      nextInRow c.rowBytes (yc.toNat % c.screenH) ((yc.toNat % c.screenH * c.screenW + xc.toNat % c.screenW) / 8) <
        c.fbLen := by
  obtain ⟨hw, hpos, hH, -, hlen⟩ := c.screen_of_ok hok
  have hx : xc.toNat % c.screenW < c.screenW := Nat.mod_lt _ (by omega)
  have hrow : yc.toNat % c.screenH < c.screenH := Nat.mod_lt _ hH
  have hnext : nextByte c.rowBytes (xc.toNat % c.screenW / 8) < c.rowBytes := by
    unfold nextByte
    split <;> omega
  rw [pixel_byte hok, nextInRow_eq, hlen]
  exact ⟨row_mul_add_lt hrow (by omega), row_mul_add_lt hrow hnext⟩

variable {fb : List Byte} (hfb : fb.length = c.fbLen)
include hfb

theorem pixelAt_blit {row col : Nat} (hcol : col < c.screenW) :
    pixelAt c (blit c xc yc b fb).1 row col = (pixelAt c fb row col ^^ spriteCovers c xc yc b row col) := by
  obtain ⟨h0, h1⟩ := blit_bytes_lt hok xc yc
  rw [pixelAt_eq hok, pixelAt_eq hok, ← getLsbD_blitMask_pixel hok xc yc b hcol, ← BitVec.getLsbD_xor]
  exact congrArg (fun a => BitVec.getLsbD a _) (getD_blitAt (hfb ▸ h0) (hfb ▸ h1) _)

theorem blit_collides_iff :
    (blit c xc yc b fb).2 = true ↔
      ∃ row col, row < c.screenH ∧ col < c.screenW ∧ spriteCovers c xc yc b row col = true ∧
        pixelAt c fb row col = true := by
  obtain ⟨h0, h1⟩ := blit_bytes_lt hok xc yc
  obtain ⟨hw, -, -, -, hlen⟩ := c.screen_of_ok hok
  refine (blitAt_collides_iff (hfb ▸ h0) (hfb ▸ h1)).trans ?_
  constructor
  · rintro ⟨k, j, hk, hj, hlit, hmask⟩
    obtain ⟨row, col, hrow, hcol, rfl, rfl⟩ := exists_pixel_of_bit hok (hfb ▸ hk) hj
    exact ⟨row, col, hrow, hcol, (getLsbD_blitMask_pixel hok xc yc b hcol).symm.trans hmask,
      (pixelAt_eq hok fb row col).trans hlit⟩
  · rintro ⟨row, col, hrow, hcol, hcovers, hlit⟩
    have hk : row * c.rowBytes + col / 8 < fb.length := by
      rw [hfb, hlen]
      exact row_mul_add_lt hrow (by omega)
    exact ⟨_, 7 - col % 8, hk, by omega, (pixelAt_eq hok fb row col).symm.trans hlit,
      (getLsbD_blitMask_pixel hok xc yc b hcol).trans hcovers⟩

end BlitPixels

/-- Settles O52: the mask of a blit has exactly the sprite's pixels as bits. -/
theorem blitTogglesExactlyItsPixels : Obligations.BlitTogglesExactlyItsPixels := by
  unfold Obligations.BlitTogglesExactlyItsPixels
  intro c xc yc b fb hok hfb
  exact ⟨fun row col _ hcol => pixelAt_blit hok xc yc b hfb hcol, blit_collides_iff hok xc yc b hfb⟩

end Sys2Proof.Machine
end

section
/-! Drawing a sprite (spec/44_draw.md R202 to R207): its rows are blits in order, so the first `k` rows toggle a pixel as
often as they cover it, and row `k` collides where a pixel that they left lit is covered again. -/

namespace Sys2Proof.Machine

/-! ### The rows of a sprite in order -/

theorem drawRows_append (c : Configuration) (cx cy : Byte) (r : Nat) (as bs fb : List Byte) :
    drawRows c cx cy r (as ++ bs) fb =
      ((drawRows c cx cy (r + as.length) bs (drawRows c cx cy r as fb).1).1,
        (drawRows c cx cy r as fb).2 || (drawRows c cx cy (r + as.length) bs (drawRows c cx cy r as fb).1).2) := by
  induction as generalizing r fb with
  | nil => rfl
  | cons a as ih =>
    have hr : r + (a :: as).length = r + 1 + as.length := by rw [List.length_cons]; omega
    rw [List.cons_append, drawRows, ih, hr]
    simp only [drawRows, Bool.or_assoc]

theorem drawRows_singleton (c : Configuration) (cx cy : Byte) (r : Nat) (b : Byte) (fb : List Byte) :
    drawRows c cx cy r [b] fb = blit c cx (cy + BitVec.ofNat 8 r) b fb := by
  simp [drawRows]

theorem drawRows_take_succ (c : Configuration) (cx cy : Byte) {bs : List Byte} (fb : List Byte) {k : Nat}
    (hk : k < bs.length) :
    drawRows c cx cy 0 (bs.take (k + 1)) fb =
      ((blit c cx (cy + BitVec.ofNat 8 k) (bs.getD k 0) (drawRows c cx cy 0 (bs.take k) fb).1).1,
        (drawRows c cx cy 0 (bs.take k) fb).2 ||
          (blit c cx (cy + BitVec.ofNat 8 k) (bs.getD k 0) (drawRows c cx cy 0 (bs.take k) fb).1).2) := by
  have hlen : 0 + (bs.take k).length = k := by
    rw [List.length_take]
    omega
  have hget : bs.getD k 0 = bs[k] := by simp [List.getD_eq_getElem?_getD, hk]
  rw [List.take_succ_eq_append_getElem hk, drawRows_append, drawRows_singleton, hlen, hget]

section Draw

variable {c : Configuration} (hok : c.ok = true) (cx cy : Byte) (bs : List Byte) {fb : List Byte}
  (hfb : fb.length = c.fbLen)
include hok hfb

theorem pixelAt_drawRows_take {row col k : Nat} (hcol : col < c.screenW) (hk : k ≤ bs.length) :
    pixelAt c (drawRows c cx cy 0 (bs.take k) fb).1 row col =
      (pixelAt c fb row col ^^ spriteParity c cx cy bs row col k) := by
  induction k with
  | zero => exact (Bool.xor_false _).symm
  | succ k ih =>
    rw [drawRows_take_succ c cx cy fb hk, spriteParity, ← Bool.xor_assoc, ← ih (by omega)]
    exact pixelAt_blit hok _ _ _ ((length_drawRows ..).trans hfb) hcol

theorem pixelAt_drawRows {row col : Nat} (hcol : col < c.screenW) :
    pixelAt c (drawRows c cx cy 0 bs fb).1 row col =
      (pixelAt c fb row col ^^ spriteParity c cx cy bs row col bs.length) := by
  have h := pixelAt_drawRows_take hok cx cy bs hfb (row := row) hcol (le_refl _)
  rwa [List.take_length] at h

theorem drawRows_take_collides_iff {k : Nat} (hk : k ≤ bs.length) :
    (drawRows c cx cy 0 (bs.take k) fb).2 = true ↔
      ∃ j row col, j < k ∧ row < c.screenH ∧ col < c.screenW ∧
        (pixelAt c fb row col ^^ spriteParity c cx cy bs row col j) = true ∧
          spriteCovers c cx (cy + BitVec.ofNat 8 j) (bs.getD j 0) row col = true := by
  induction k with
  | zero =>
    constructor
    · intro h
      cases h
    · rintro ⟨j, row, col, hj, -⟩
      omega
  | succ k ih =>
    have hlen : (drawRows c cx cy 0 (bs.take k) fb).1.length = c.fbLen := (length_drawRows ..).trans hfb
    rw [drawRows_take_succ c cx cy fb hk, Bool.or_eq_true, ih (by omega), blit_collides_iff hok _ _ _ hlen]
    constructor
    · rintro (⟨j, row, col, hj, h⟩ | ⟨row, col, hrow, hcol, hcovers, hlit⟩)
      · exact ⟨j, row, col, by omega, h⟩
      · rw [pixelAt_drawRows_take hok cx cy bs hfb hcol (by omega)] at hlit
        exact ⟨k, row, col, by omega, hrow, hcol, hlit, hcovers⟩
    · rintro ⟨j, row, col, hj, hrow, hcol, hlit, hcovers⟩
      obtain hlt | rfl := Nat.lt_succ_iff_lt_or_eq.1 hj
      · exact .inl ⟨j, row, col, hlt, hrow, hcol, hlit, hcovers⟩
      · rw [← pixelAt_drawRows_take hok cx cy bs hfb hcol (by omega)] at hlit
        exact .inr ⟨row, col, hrow, hcol, hcovers, hlit⟩

theorem drawRows_collides_iff : (drawRows c cx cy 0 bs fb).2 = true ↔ spriteHits c cx cy bs fb := by
  have h := drawRows_take_collides_iff hok cx cy bs hfb (le_refl _)
  rwa [List.take_length] at h

/-- The second draw toggles each pixel as often as the first did. -/
theorem drawRows_twice : (drawRows c cx cy 0 bs (drawRows c cx cy 0 bs fb).1).1 = fb := by
  have hlen : (drawRows c cx cy 0 bs fb).1.length = c.fbLen := (length_drawRows ..).trans hfb
  refine fb_ext hok ((length_drawRows ..).trans hlen) hfb fun row col _ hcol => ?_
  rw [pixelAt_drawRows hok cx cy bs hlen hcol, pixelAt_drawRows hok cx cy bs hfb hcol, Bool.xor_assoc, Bool.xor_self,
    Bool.xor_false]

end Draw

/-! ### `Dxyn` -/

/-- Settles O51: `Dxyn` draws the bytes at `I` and writes VF last. -/
theorem drawTogglesTheSpritesPixels : Obligations.DrawTogglesTheSpritesPixels := by
  unfold Obligations.DrawTogglesTheSpritesPixels
  intro s x y n hok hfb hi
  have hlen : (s.spriteBytes n).length = n.toNat := Memory.length_readBytes ..
  have hflag : (s.draw (s.getV x) (s.getV y) (s.spriteBytes n)).getV 15#4 =
      flagByte (drawRows s.cfg (s.getV x) (s.getV y) 0 (s.spriteBytes n) s.fb).2 := State.getV_setV_self ..
  have hcollides := drawRows_collides_iff hok (s.getV x) (s.getV y) (s.spriteBytes n) hfb
  refine ⟨s.draw (s.getV x) (s.getV y) (s.spriteBytes n), s.spriteBytes n, hlen, fun k hk => Memory.getD_readBytes _ hk,
    exec_drw_in_memory x y hi hfb, State.draw_eq .., length_drawRows .., ?dirty, fun row col _ hcol => ?pixels,
    fun hhits => ?hit, fun hmiss => ?miss, fun r hr => s.getV_draw_of_ne _ _ _ hr⟩
  case dirty =>
    have hempty : (s.spriteBytes n).isEmpty = (n == 0) := by
      rw [Bool.eq_iff_iff, List.isEmpty_iff_length_eq_zero, hlen, beq_iff_eq, ← BitVec.toNat_inj]
      rfl
    rw [State.draw_eq, hempty]
    rfl
  case pixels =>
    rw [← hlen]
    exact pixelAt_drawRows hok _ _ _ hfb hcol
  case hit =>
    rw [hflag, hcollides.2 hhits]
    rfl
  case miss =>
    rw [hflag, Bool.eq_false_iff.2 fun h => hmiss (hcollides.1 h)]
    rfl

/-! ### Drawing twice -/

/-- The row of the screen that sprite row `k` is drawn on. -/
def screenRow (c : Configuration) (cy : Byte) (k : Nat) : Nat := (cy + BitVec.ofNat 8 k).toNat % c.screenH

/-- A sprite of at most `SCREEN_H` rows wraps at row 256 only where that is a wrap of the screen too. -/
theorem screenRow_eq {c : Configuration} {cy : Byte} {k n : Nat} (hk : k < n)
    (hwrap : 256 % c.screenH = 0 ∨ cy.toNat + n ≤ 256) : screenRow c cy k = (cy.toNat + k) % c.screenH := by
  have hsum : (cy + BitVec.ofNat 8 k).toNat = (cy.toNat + k) % 256 := by
    rw [BitVec.toNat_add, BitVec.toNat_ofNat]
    omega
  rw [screenRow, hsum]
  obtain hdvd | hle := hwrap
  · exact Nat.mod_mod_of_dvd _ (Nat.dvd_of_mod_eq_zero hdvd)
  · rw [Nat.mod_eq_of_lt (show cy.toNat + k < 256 by omega)]

theorem rowsApart_of_le {c : Configuration} {cy : Byte} {n : Nat} (hn : n ≤ c.screenH)
    (hwrap : 256 % c.screenH = 0 ∨ cy.toNat + n ≤ 256) : rowsApart c cy n := by
  intro j k hjk hk
  change screenRow c cy j ≠ screenRow c cy k
  rw [screenRow_eq (hjk.trans hk) hwrap, screenRow_eq hk hwrap]
  intro heq
  have hdvd : c.screenH ∣ k - j := by
    have h := (Nat.modEq_iff_dvd' (by omega)).1 heq
    rwa [Nat.add_sub_add_left] at h
  have := Nat.le_of_dvd (by omega) hdvd
  omega

theorem row_of_spriteCovers {c : Configuration} {cx cy b : Byte} {k row col : Nat}
    (h : spriteCovers c cx (cy + BitVec.ofNat 8 k) b row col = true) : row = screenRow c cy k :=
  ((spriteCovers_iff ..).1 h).1

/-- When no two rows share a screen row, a pixel that row `k` covers is toggled by that row only. -/
theorem spriteParity_of_rowsApart {c : Configuration} {cx cy : Byte} {bs : List Byte} {row col k m : Nat}
    (hapart : rowsApart c cy bs.length) (hk : k < bs.length)
    (hcovers : spriteCovers c cx (cy + BitVec.ofNat 8 k) (bs.getD k 0) row col = true) (hm : m ≤ bs.length) :
    spriteParity c cx cy bs row col m = decide (k < m) := by
  induction m with
  | zero => rfl
  | succ m ih =>
    rw [spriteParity, ih (by omega)]
    by_cases hmk : m = k
    · subst hmk
      rw [hcovers]
      simp
    · have hother : spriteCovers c cx (cy + BitVec.ofNat 8 m) (bs.getD m 0) row col = false := by
        rw [Bool.eq_false_iff]
        intro h
        have hrow : screenRow c cy m = screenRow c cy k := (row_of_spriteCovers h).symm.trans (row_of_spriteCovers hcovers)
        obtain hlt | hgt := Nat.lt_or_gt_of_ne hmk
        · exact hapart m k hlt hk hrow
        · exact hapart k m hgt hm hrow.symm
      rw [hother, Bool.xor_false, decide_eq_decide]
      omega

/-- A sprite byte that is not 0 covers a pixel of the screen. -/
theorem exists_covered_pixel {c : Configuration} (hok : c.ok = true) (xc yc : Byte) {b : Byte} (hb : b ≠ 0) :
    ∃ row col, row < c.screenH ∧ col < c.screenW ∧ spriteCovers c xc yc b row col = true := by
  obtain ⟨hw, hpos, hH, -⟩ := c.screen_of_ok hok
  obtain ⟨j, hj, hbit⟩ := (byte_ne_zero_iff b).1 hb
  have hindex : 7 - (7 - j) = j := by omega
  exact ⟨_, _, Nat.mod_lt _ hH, Nat.mod_lt _ (by omega),
    (spriteCovers_iff ..).2 ⟨rfl, 7 - j, by omega, by rwa [hindex], rfl⟩⟩

theorem pixelAt_blank (c : Configuration) (n row col : Nat) : pixelAt c (List.replicate n 0) row col = false := by
  simp [pixelAt, List.getD_eq_getElem?_getD, List.getElem?_replicate]
  split <;> simp

/-- Settles O53: every pixel is toggled twice; on a blank screen, with the rows apart, a covered pixel is lit by the first
draw and hit by the second. -/
theorem drawingTwiceRestoresTheScreen : Obligations.DrawingTwiceRestoresTheScreen := by
  unfold Obligations.DrawingTwiceRestoresTheScreen
  intro c cx cy bs fb hok hfb
  refine ⟨drawRows_twice hok cx cy bs hfb, rowsApart_of_le, ?_⟩
  rintro ⟨b, hmem, hb⟩ hapart rfl
  constructor
  · rw [Bool.eq_false_iff, Ne, drawRows_collides_iff hok cx cy bs hfb]
    rintro ⟨k, row, col, hk, -, -, hlit, hcovers⟩
    rw [pixelAt_blank, spriteParity_of_rowsApart hapart hk hcovers hk.le] at hlit
    simp at hlit
  · rw [drawRows_collides_iff hok cx cy bs ((length_drawRows ..).trans hfb)]
    obtain ⟨k, hk, rfl⟩ := List.getElem_of_mem hmem
    have hget : bs.getD k 0 = bs[k] := by simp [List.getD_eq_getElem?_getD, hk]
    obtain ⟨row, col, hrow, hcol, hcovers⟩ := exists_covered_pixel hok cx (cy + BitVec.ofNat 8 k) hb
    rw [← hget] at hcovers
    refine ⟨k, row, col, hk, hrow, hcol, ?_, hcovers⟩
    rw [pixelAt_drawRows hok cx cy bs hfb hcol, pixelAt_blank, spriteParity_of_rowsApart hapart hk hcovers (le_refl _),
      spriteParity_of_rowsApart hapart hk hcovers hk.le]
    simp [hk]

end Sys2Proof.Machine
end
